-- ==== Sys2Proof/Word.lean ====
section
/-! DEFINITION. The words, names and fixed-size banks the whole model is written with. -/

namespace Sys2Proof

/-- One byte of a frame (R182). -/
abbrev Byte := BitVec 8

/-- A line or pin level: `true` is level 1, the high pin level (section 0.5). -/
abbrev Level := Bool

/-- A drive line D0 to D11 (section 0.4). -/
abbrev LineId := Fin 12

/-- A sense channel S0 to S7 (section 0.4). -/
abbrev ChannelId := Fin 8

/-- A schedule slot 0 to 95 (R2). -/
abbrev SlotId := Fin 96

/-- A host, named after its port (section 0.5): the port it is attached to and the session it holds there. -/
inductive HostId where
  | a | b | c | d
  deriving DecidableEq, Repr

/-- The direction of an edge of a port's SPI clock (R166). -/
inductive ClockEdge where
  | rising | falling
  deriving DecidableEq, Repr

/-- One value per host, or per port. -/
structure Quad (α : Type) where
  a : α
  b : α
  c : α
  d : α
  deriving DecidableEq, Repr

/-- The value of host `h`. -/
def Quad.get {α : Type} (q : Quad α) : HostId → α
  | .a => q.a
  | .b => q.b
  | .c => q.c
  | .d => q.d

/-- The four values with that of host `h` replaced. -/
def Quad.set {α : Type} (q : Quad α) (h : HostId) (x : α) : Quad α :=
  match h with
  | .a => { q with a := x }
  | .b => { q with b := x }
  | .c => { q with c := x }
  | .d => { q with d := x }

/-- The same value for every host. -/
def Quad.const {α : Type} (x : α) : Quad α := ⟨x, x, x, x⟩

/-- A set of hosts: membership of each of A to D. -/
abbrev HostSet := Quad Bool

/-- The host ports' input pins as a device reset sets or finds them (R181): the level of RESET_N, and the ports whose chip select
is low. -/
structure ResetPins where
  resetN : Level
  selectsLow : HostSet
  deriving DecidableEq, Repr

/-- A time: a frame number, modulo 65536, and a phase (section 0.3). -/
structure Time where
  frame : BitVec 16
  phase : Nat
  deriving DecidableEq, Repr

end Sys2Proof
end

