-- ==== Sys2Proof/Syntax.lean ====
section
/-! DEFINITION. The commands: one constructor per row of spec/opcode_table.json, in its order. A request row is the rising chip
select of port `p` at which the port takes a complete frame with that request's code: its operands are the fields of that frame,
which the port has shifted into its receive assembly (R166, R168, Table 10-3). -/

namespace Sys2Proof

/-- One command of the table: a request taken on a port, or an event on a pin or a clock. -/
inductive Instr where
  /-- CHIP_SELECT_FALLING: chip select of port `p` falls (R166). -/
  | chipSelectFalling (p : HostId)
  /-- TRANSACTION_END: chip select of port `p` rises, and its assembly holds no complete frame, or the transaction was abandoned (R168, R177). -/
  | transactionEnd (p : HostId)
  /-- TRANSACTION_ABANDONED: the stall count of port `p` reaches 64 housekeeping periods (R177). -/
  | transactionAbandoned (p : HostId)
  /-- BAD_OPCODE_FRAME: chip select of port `p` rises, and its assembly holds a complete frame whose opcode names no request (R173). -/
  | badOpcodeFrame (p : HostId)
  /-- NOP: a complete NOP frame is taken on port `p` (R178). -/
  | nop (p : HostId)
  /-- OPEN: a complete OPEN frame is taken on port `p` (R154). -/
  | openSession (p : HostId)
  /-- CLOSE: a complete CLOSE frame is taken on port `p` (R156). -/
  | closeSession (p : HostId)
  /-- PORT_RESET: a complete PORT_RESET frame is taken on port `p` (R179). -/
  | portReset (p : HostId)
  /-- HOST_STATUS: a complete HOST_STATUS frame is taken on port `p` (R162). -/
  | hostStatus (p : HostId)
  /-- IDENT: a complete IDENT frame is taken on port `p` (R163). -/
  | ident (p : HostId)
  /-- READ_NOTICES: a complete READ_NOTICES frame is taken on port `p` (R141). -/
  | readNotices (p : HostId)
  /-- SET_NOTICE_MAPS: a complete SET_NOTICE_MAPS frame is taken on port `p` (R147). -/
  | setNoticeMaps (p : HostId)
  /-- ACK_CONDITIONS: a complete ACK_CONDITIONS frame is taken on port `p` (R144). -/
  | ackConditions (p : HostId)
  /-- TB_HOLD: a complete TB_HOLD frame is taken on port `p` (R35). -/
  | tbHold (p : HostId)
  /-- TB_RELEASE: a complete TB_RELEASE frame is taken on port `p` (R36). -/
  | tbRelease (p : HostId)
  /-- TB_START: a complete TB_START frame is taken on port `p` (R38). -/
  | tbStart (p : HostId)
  /-- TB_STOP: a complete TB_STOP frame is taken on port `p` (R42). -/
  | tbStop (p : HostId)
  /-- TB_SET_FRAME: a complete TB_SET_FRAME frame is taken on port `p` (R45). -/
  | tbSetFrame (p : HostId)
  /-- TB_SET_SYNC: a complete TB_SET_SYNC frame is taken on port `p` (R48). -/
  | tbSetSync (p : HostId)
  /-- TB_SET_PRESCALE: a complete TB_SET_PRESCALE frame is taken on port `p` (R47). -/
  | tbSetPrescale (p : HostId)
  /-- READ_TIME: a complete READ_TIME frame is taken on port `p` (R57). -/
  | readTime (p : HostId)
  /-- TB_STATUS: a complete TB_STATUS frame is taken on port `p` (R58). -/
  | tbStatus (p : HostId)
  /-- SCHEDULE: a complete SCHEDULE frame is taken on port `p` (R5). -/
  | schedule (p : HostId)
  /-- CANCEL: a complete CANCEL frame is taken on port `p` (R23). -/
  | cancel (p : HostId)
  /-- CANCEL_GROUP: a complete CANCEL_GROUP frame is taken on port `p` (R24). -/
  | cancelGroup (p : HostId)
  /-- QUERY_ENTRY: a complete QUERY_ENTRY frame is taken on port `p` (R25). -/
  | queryEntry (p : HostId)
  /-- SCHEDULE_STATUS: a complete SCHEDULE_STATUS frame is taken on port `p` (R27). -/
  | scheduleStatus (p : HostId)
  /-- CLAIM: a complete CLAIM frame is taken on port `p` (R87). -/
  | claim (p : HostId)
  /-- RELEASE: a complete RELEASE frame is taken on port `p` (R91). -/
  | release (p : HostId)
  /-- LINE_SETUP: a complete LINE_SETUP frame is taken on port `p` (R79). -/
  | lineSetup (p : HostId)
  /-- OUTPUT_HOLD: a complete OUTPUT_HOLD frame is taken on port `p` (R76). -/
  | outputHold (p : HostId)
  /-- OUTPUT_FORCE: a complete OUTPUT_FORCE frame is taken on port `p` (R77). -/
  | outputForce (p : HostId)
  /-- OUTPUT_FOLLOW: a complete OUTPUT_FOLLOW frame is taken on port `p` (R78). -/
  | outputFollow (p : HostId)
  /-- LINE_STATUS: a complete LINE_STATUS frame is taken on port `p` (R83). -/
  | lineStatus (p : HostId)
  /-- SENSE_SETUP: a complete SENSE_SETUP frame is taken on port `p` (R105). -/
  | senseSetup (p : HostId)
  /-- SUBSCRIBE: a complete SUBSCRIBE frame is taken on port `p` (R107). -/
  | subscribe (p : HostId)
  /-- UNSUBSCRIBE: a complete UNSUBSCRIBE frame is taken on port `p` (R108). -/
  | unsubscribe (p : HostId)
  /-- SENSE_REARM: a complete SENSE_REARM frame is taken on port `p` (R116). -/
  | senseRearm (p : HostId)
  /-- SENSE_STATUS: a complete SENSE_STATUS frame is taken on port `p` (R118). -/
  | senseStatus (p : HostId)
  /-- REFLEX_SET: a complete REFLEX_SET frame is taken on port `p` (R123). -/
  | reflexSet (p : HostId)
  /-- REFLEX_CLEAR: a complete REFLEX_CLEAR frame is taken on port `p` (R125). -/
  | reflexClear (p : HostId)
  /-- SILENCE_EXPIRY: the silence timer of host `h` reaches its limit (R159). -/
  | silenceExpiry (h : HostId)
  /-- TICK: REFCLK cycles up to and including the one that completes the divider count (R31, R32). -/
  | tick
  /-- PULSE_END: the tick at which the pulse countdown of drive line `line` reaches 0 (R71). -/
  | pulseEnd (line : Nat)
  /-- NATURAL_WRAP: the tick from the last phase of the frame (R33). -/
  | naturalWrap
  /-- RUN_LIMIT: the natural wrap at which the run-limit count reaches 0 (R43). -/
  | runLimit
  /-- SYNC_LOST: the natural wrap that is the third consecutive miss (R53). -/
  | syncLost
  /-- SYNC_EDGE: a rising edge on the SYNC input (R49). -/
  | syncEdge
  /-- REF_LOST: the reference monitor declares ABSENT (R54, R55). -/
  | refLost
  /-- REF_BACK: the reference monitor declares PRESENT (R54, R56). -/
  | refBack
  /-- SENSE_EDGE: sense line `channel` takes level `level` (R110). -/
  | senseEdge (channel : Nat) (level : Level)
  /-- CAPTURE: the edge of channel `channel` to level `level` that completes the prescale count (R112, R113). -/
  | capture (channel : Nat) (level : Level)
  /-- DEVICE_RESET: RESET_N takes level `pins.resetN`: low, also at power-on, the part is held in device reset; high, it has been released. The ports in `pins.selectsLow` then have chip select low, and bit c of `senses` is the level of sense line Sc (R181, R121). -/
  | deviceReset (pins : ResetPins) (senses : BitVec 8)
  /-- SPI_CLOCK_EDGE: an edge of the SPI clock of port `p`, with level `sdi` on its data input (R166). -/
  | spiClockEdge (p : HostId) (edge : ClockEdge) (sdi : Level)
  /-- REFCLK_CYCLE: one cycle of REFCLK (R31, R111). -/
  | refclkCycle
  deriving DecidableEq, Repr

end Sys2Proof
end

