-- ==== Sys2Proof/Decode.lean ====
section
/-! DEFINITION. The commands that words of the opcode table spell. -/

namespace Sys2Proof

/-- The command a word of the table's bits spells. No row of spec/opcode_table.json gives bits (the source's rows hold neither a
match nor a pattern), so no word spells a command; request frames, which do carry codes, are read by the ports from their
receive assembly (Machine/Frames.lean, Machine/Ports.lean). -/
def decodeTableWord (_nbits _w : Nat) : Option Instr := none

end Sys2Proof
end

