-- ==== Sys2Proof/Config.lean ====
section
/-! DEFINITION. The counts of section 0.4 that the rules use, and the one open value of the manual: the order of events it
fixes no order for. -/

namespace Sys2Proof.Config

/-- The choice the part makes where two events reach one piece of state 'in either order' INSIDE one step of the model
(section 0.5: no order between them is fixed by the part). It has no body, so nothing can be proved of its values: what
holds of the model holds for every choice. Each use takes the next argument (`State.choices`). -/
opaque openOrder : Nat → Nat

/-- Schedule capacity (R3, R14). -/
abbrev capacity : Nat := 96

/-- Entries one host may own (R3, R14). -/
abbrev quota : Nat := 32

/-- The horizon: the largest lead an entry may have (section 0.3, R10). -/
abbrev horizon : Nat := 4095

/-- Leads from here on are read as a frame behind the current one (R10). -/
abbrev behindFrom : Nat := 32768

/-- Notices a queue holds (R133). -/
abbrev queueCapacity : Nat := 32

/-- Largest value of the lost-notice count and of a frame error count (section 0.4). -/
abbrev saturation : Nat := 255

/-- Housekeeping periods after which a stalled transaction is abandoned (R177). -/
abbrev stallLimit : Nat := 64

/-- Housekeeping periods in one unit of a silence limit (section 0.3, R158). -/
abbrev silenceUnit : Nat := 262

/-- Housekeeping periods without a REFCLK edge before ABSENT is declared (R54). -/
abbrev absentAfter : Nat := 4

/-- Housekeeping periods each with a REFCLK edge before PRESENT is declared (R54). -/
abbrev presentAfter : Nat := 2

/-- Consecutive misses before the sync state becomes LOST (R53). -/
abbrev lostAfter : Nat := 3

/-- Smallest and largest frame length (section 0.3). -/
abbrev minLength : Nat := 64
abbrev maxLength : Nat := 16777216

/-- Largest payload of a frame (R170, R182). -/
abbrev maxPayload : Nat := 48

/-- The fill byte (Table 10-2). -/
abbrev fill : Byte := 255

end Sys2Proof.Config
end

