-- ==== Sys2Proof/Machine/State.lean ====
section
/-! DEFINITION. The state of the part: every record its nine blocks keep, the input pins it reads at its own moments, and the
two fields of the model's own (the queue of waiting commands and the counter of open choices). Values the manual keeps as a
function of these (pins D0 to D11 and SDO, the counts of R3, the rank of an entry) are computed in Machine/, not stored twice. -/

namespace Sys2Proof.Machine

/-! ## The schedule (chapter 1) -/

/-- The six actions (R1), with their codes' names (Table 10-1). -/
inductive Action where
  | set | clear | toggle | pulse | rearm | mark
  deriving DecidableEq, Repr

/-- What an entry or a reflex does to a drive line; a width belongs to PULSE only (R1, R122). -/
inductive LineAction where
  | set | clear | toggle
  | pulse (width : Nat)
  deriving DecidableEq, Repr

/-- An entry's action with its target and width (R1): a drive line, a sense channel, or none for MARK. -/
inductive Deed where
  | onLine (action : LineAction) (line : LineId)
  | rearm (channel : ChannelId)
  | mark
  deriving DecidableEq, Repr

/-- Late policy (R1). -/
inductive LatePolicy where
  | fireLate | drop
  deriving DecidableEq, Repr

/-- Who inserted an entry (R1). -/
inductive Origin where
  | host
  | reflex (channel : ChannelId)
  deriving DecidableEq, Repr

/-- The name of an entry: its slot and the slot's use count when it was inserted (R1, R2). -/
structure Handle where
  slot : SlotId
  use : BitVec 9
  deriving DecidableEq, Repr

/-- Period in frames and remaining count, 0 meaning unbounded (R1). -/
structure Recurrence where
  period : Nat
  remaining : Nat
  deriving DecidableEq, Repr

/-- The entry record (R1). -/
structure Entry where
  handle : Handle
  owner : HostId
  deed : Deed
  due : Time
  recurrence : Option Recurrence
  tag : Fin 16
  notify : Bool
  late : LatePolicy
  origin : Origin
  deriving DecidableEq, Repr

/-! ## The timebase (chapter 2) -/

/-- Timebase state (section 2.1). -/
inductive TbMode where
  | halted | awaitingSync | running | refLost
  deriving DecidableEq, Repr

/-- Sync mode (section 2.1). -/
inductive SyncMode where
  | none | align
  deriving DecidableEq, Repr

/-- Sync state (section 2.1). -/
inductive SyncLock where
  | searching | locked | lost
  deriving DecidableEq, Repr

/-- Monitor state (section 2.1). -/
inductive RefVerdict where
  | present | absent
  deriving DecidableEq, Repr

/-- The reference monitor (R54): its verdict, the consecutive housekeeping periods without a REFCLK edge, those with one, and
whether an edge has arrived in the current period. -/
structure RefMonitor where
  verdict : RefVerdict
  withoutEdge : Nat
  withEdge : Nat
  edgeSeen : Bool
  deriving DecidableEq, Repr

/-- The timebase record (section 2.1). -/
structure Timebase where
  mode : TbMode
  now : Time
  length : Nat
  staged : Option Nat
  prescale : Nat
  divider : Nat
  syncMode : SyncMode
  window : Nat
  lock : SyncLock
  missCount : Nat
  prevMissed : Bool
  runLimit : Nat
  pendingStop : Bool
  holder : Option HostId
  monitor : RefMonitor
  deriving DecidableEq, Repr

/-! ## Drive lines (chapters 3 and 4) -/

/-- Output state (R62). -/
inductive OutputState where
  | driven | held
  deriving DecidableEq, Repr

/-- A line's settings (R62): idle level, frame-return and safe level (absent for NONE). -/
structure LineSettings where
  idle : Level
  frameReturn : Bool
  safe : Option Level
  deriving DecidableEq, Repr

/-- The output record of a drive line (R62). -/
structure OutputRec where
  level : Level
  output : OutputState
  heldLevel : Level
  pulse : Option Nat
  settings : LineSettings
  deriving DecidableEq, Repr

/-- Claim state (R85). -/
inductive ClaimState where
  | free | exclusive | shared
  deriving DecidableEq, Repr

/-- Claim mode (R86, R87). -/
inductive ClaimMode where
  | exclusive | shared
  deriving DecidableEq, Repr

/-- How a SHARED line combines a firing group (R85). -/
inductive Policy where
  | refuse | setWins | clearWins
  deriving DecidableEq, Repr

/-- What a place asks for; a policy is recorded for a SHARED place only (R86). -/
inductive Ask where
  | exclusive
  | shared (policy : Policy)
  deriving DecidableEq, Repr

/-- A place in a line's wait list (R86). -/
structure Place where
  host : HostId
  ask : Ask
  settings : LineSettings
  deriving DecidableEq, Repr

/-- The claim record of a drive line (R85). -/
structure ClaimRec where
  state : ClaimState
  holders : HostSet
  policy : Policy
  waiting : List Place
  deriving DecidableEq, Repr

/-! ## Sense channels and reflexes (chapters 5 and 6) -/

/-- Channel state (R103). -/
inductive ChannelState where
  | idle | opened | gated
  deriving DecidableEq, Repr

/-- Edge selection (R103). -/
inductive EdgeSelection where
  | rising | falling | both
  deriving DecidableEq, Repr

/-- Filter setting (R103). -/
inductive Filter where
  | off | tick | refclk
  deriving DecidableEq, Repr

/-- Direction of a captured edge (R103). -/
inductive EdgeDir where
  | rising | falling
  deriving DecidableEq, Repr

/-- The record of the most recent capture (R103). -/
structure LastCapture where
  stamp : Time
  edge : EdgeDir
  sequence : BitVec 16
  deriving DecidableEq, Repr

/-- The channel record (R103), with the level at its sense line's pin. -/
structure ChannelRec where
  state : ChannelState
  edge : EdgeSelection
  filter : Filter
  prescale : Nat
  gate : Bool
  subscribers : HostSet
  counter : Nat
  settled : Level
  filterCount : Nat
  sequence : BitVec 16
  last : Option LastCapture
  pin : Level
  deriving DecidableEq, Repr

/-- What a reflex does: an action on a drive line, or MARK; never REARM (R122). -/
inductive ReflexDeed where
  | onLine (action : LineAction) (line : LineId)
  | mark
  deriving DecidableEq, Repr

/-- The reflex record of a channel (R122). -/
structure Reflex where
  owner : HostId
  deed : ReflexDeed
  delay : Nat
  late : LatePolicy
  notify : Bool
  tag : Fin 16
  deriving DecidableEq, Repr

/-! ## Replies (chapters 9 and 10) -/

/-- The status codes (Table 10-4). -/
inductive Status where
  | ok | staged | queued | empty
  | badCrc | badOpcode | badLength | badArg | noSession
  | already | notHolder | held | notOwner | busy | state | noRef
  | full | quota | late | tooFar | phaseRange | collide | notAllowed | noEntry | notSubscribed
  deriving DecidableEq, Repr

/-- A reply frame as it was placed in a slot (R175); its length and CRC follow from these fields (R182, R183). -/
structure Reply where
  status : Status
  tag : Byte
  prevUnread : Bool
  noticesHeld : Bool
  attention : Bool
  payload : List Byte
  deriving DecidableEq, Repr

/-! ## Notices and conditions (chapter 7) -/

/-- The eleven kinds of notice (R135). -/
inductive NoticeKind where
  | fired | capture | expired | evicted | cancelled | reflexLost | reflexRemoved | claimGranted | tbState | tbFrame | syncEvent
  deriving DecidableEq, Repr

/-- EVICTED reasons (R135). -/
inductive EvictReason where
  | frameLength | restart | collide
  deriving DecidableEq, Repr

/-- CANCELLED and REFLEX_REMOVED reasons (R135). -/
inductive RemovalReason where
  | released | unsubscribed
  deriving DecidableEq, Repr

/-- TB_STATE causes (R59). -/
inductive TbCause where
  | start | stop | pendingStop | runLimit | refLost | refBack | discard
  deriving DecidableEq, Repr

/-- SYNC_EVENT events (R59). -/
inductive SyncNews where
  | locked | early | lost
  deriving DecidableEq, Repr

/-- A notice's kind with its kind fields (R135); `fired` is DONE. A target is a line or channel number, absent for MARK. -/
inductive NoticeBody where
  | fired (handle : Handle) (action : Action) (target : Option Nat) (level late final : Bool) (remaining : Nat) (origin : Origin)
  | capture (channel : ChannelId) (edge : EdgeDir) (sequence : BitVec 16)
  | expired (handle : Handle) (target : Option Nat)
  | evicted (handle : Handle) (reason : EvictReason)
  | cancelled (handle : Handle) (reason : RemovalReason)
  | reflexLost (channel : ChannelId) (reason : Status)
  | reflexRemoved (channel : ChannelId) (reason : RemovalReason)
  | claimGranted (line : LineId) (mode : ClaimMode) (policy : Policy)
  | tbState (mode : TbMode) (cause : TbCause)
  | tbFrame (length : Nat)
  | syncEvent (news : SyncNews) (missCount : Nat)
  deriving DecidableEq, Repr

/-- A notice as it is held (R134). -/
structure Notice where
  number : BitVec 8
  urgent : Bool
  stamp : Time
  body : NoticeBody
  deriving DecidableEq, Repr

/-- A set of notice kinds: bit k - 1 for the kind of code k (R184). -/
abbrev KindSet := BitVec 11

/-- The three condition flags of a host (R133). -/
structure Conditions where
  noticeLoss : Bool
  tbAlert : Bool
  frameError : Bool
  deriving DecidableEq, Repr

/-- The notice unit's record of a host (R133). -/
structure NoticeRec where
  urgent : List Notice
  routine : List Notice
  urgencyMap : KindSet
  attentionMask : KindSet
  nextNumber : BitVec 8
  lostCount : Nat
  conditions : Conditions
  attention : Bool
  deriving DecidableEq, Repr

/-! ## Sessions (chapter 8) -/

/-- What ended a host's last session (R152). -/
inductive EndCause where
  | none | close | silence | portReset | deviceReset
  deriving DecidableEq, Repr

/-- A running silence timer: whole units counted, and housekeeping periods counted towards the next (R152, R158). -/
structure SilenceTimer where
  units : Nat
  periods : Nat
  deriving DecidableEq, Repr

/-- The session record of a host (R152); a stopped timer is absent. -/
structure SessionRec where
  isOpen : Bool
  number : BitVec 8
  silenceLimit : Nat
  timer : Option SilenceTimer
  watch : Bool
  endCause : EndCause
  deriving DecidableEq, Repr

/-! ## Host ports (chapter 9) -/

/-- Transaction state (R165). -/
inductive Transaction where
  | idle | shifting | abandoned
  deriving DecidableEq, Repr

/-- The port record (R165), with the bits of the byte being shifted in, the outgoing frame chosen at chip select falling (R167)
and the number of falling clock edges since, which place the data output. -/
structure PortRec where
  transaction : Transaction
  assembly : List Byte
  bits : List Bool
  bytesOut : Nat
  outgoing : List Byte
  bitsOut : Nat
  slot : Option Reply
  unread : Bool
  frameErrors : Nat
  stall : Nat
  deriving DecidableEq, Repr

/-! ## The whole part -/

/-- The state of the part. -/
structure State where
  /-- Timebase record with the reference monitor (section 2.1). -/
  tb : Timebase
  /-- The entry list, in list order (R4). A slot is occupied when an entry of the list holds it. -/
  entries : List Entry
  /-- Use count of each slot (R2). -/
  uses : Vector (BitVec 9) 96
  /-- Output records (R62). -/
  lines : Vector OutputRec 12
  /-- Claim records (R85). -/
  claims : Vector ClaimRec 12
  /-- Channel records (R103). -/
  channels : Vector ChannelRec 8
  /-- Reflex of each channel (R122). -/
  reflexes : Vector (Option Reflex) 8
  /-- Notice records (R133). -/
  notices : Quad NoticeRec
  /-- Session records (R152). -/
  sessions : Quad SessionRec
  /-- Port records (R165). -/
  ports : Quad PortRec
  /-- Level of the input RESET_N: low while the part is held in device reset (sections 0.7, 0.8). -/
  resetN : Level
  /-- The model's own: open choices taken so far, the argument of the next `Config.openOrder`. -/
  choices : Nat
  /-- The model's own: the commands that wait, first in first out. -/
  pending : List Instr
  deriving DecidableEq, Repr

/-- Faults of a step. The manual names no event that stops the part, and no meaning of this model ends in a fault: the type has
no value (safe). -/
inductive Fault where
  deriving DecidableEq, Repr

/-- Refusals of a step. -/
inductive Refusal where
  /-- Raised by an arm of `exec` whose command has no meaning yet; no arm of this model raises it (safe: the machine stops). -/
  | notModelled (mnemonic : String)
  deriving DecidableEq, Repr

/-! ## Reset values -/

/-- R61. -/
def Timebase.reset : Timebase :=
  { mode := .halted, now := ⟨0, 0⟩, length := 10000, staged := none, prescale := 1, divider := 0, syncMode := .none, window := 0,
    lock := .searching, missCount := 0, prevMissed := false, runLimit := 0, pendingStop := false, holder := none,
    monitor := { verdict := .present, withoutEdge := 0, withEdge := 0, edgeSeen := false } }

/-- The settings of a FREE line (R82, R84). -/
def LineSettings.cleared : LineSettings := { idle := false, frameReturn := false, safe := none }

/-- R84; also the record of a line that becomes FREE (R82). -/
def OutputRec.cleared : OutputRec :=
  { level := false, output := .driven, heldLevel := false, pulse := none, settings := .cleared }

/-- R102; also the record of a line that becomes FREE (R93). -/
def ClaimRec.cleared : ClaimRec := { state := .free, holders := .const false, policy := .refuse, waiting := [] }

/-- R121, for a sense line that stands at `level` when RESET_N is released. -/
def ChannelRec.reset (level : Level) : ChannelRec :=
  { state := .idle, edge := .rising, filter := .off, prescale := 0, gate := false, subscribers := .const false, counter := 0,
    settled := level, filterCount := 0, sequence := 0, last := none, pin := level }

/-- The urgency map at session open (R148): EXPIRED, EVICTED, CANCELLED, REFLEX_LOST, REFLEX_REMOVED, TB_STATE, SYNC_EVENT. -/
def KindSet.defaultUrgency : KindSet := 0b10101111100

/-- All eleven kinds (R148). -/
def KindSet.all : KindSet := 0b11111111111

/-- R150, and the values at session open (R148). -/
def NoticeRec.reset : NoticeRec :=
  { urgent := [], routine := [], urgencyMap := .defaultUrgency, attentionMask := .all, nextNumber := 0, lostCount := 0,
    conditions := ⟨false, false, false⟩, attention := false }

/-- R164. -/
def SessionRec.reset : SessionRec :=
  { isOpen := false, number := 0, silenceLimit := 0, timer := none, watch := false, endCause := .deviceReset }

/-- R181, for a port whose chip select is low (`selected`) or high when RESET_N is released. -/
def PortRec.reset (selected : Bool) : PortRec :=
  { transaction := if selected then .abandoned else .idle, assembly := [], bits := [], bytesOut := 0, outgoing := [], bitsOut := 0,
    slot := none, unread := false, frameErrors := 0, stall := 0 }

/-- The part after a device reset that finds chip select low on the ports of `selectsLow` and sense line Sc at bit c of `senses`
(R30, R61, R84, R102, R121, R132, R150, R164, R181). -/
def State.afterReset (selectsLow : HostSet) (senses : BitVec 8) : State :=
  { tb := .reset
    entries := []
    uses := Vector.replicate 96 0
    lines := Vector.replicate 12 .cleared
    claims := Vector.replicate 12 .cleared
    channels := Vector.ofFn fun c => ChannelRec.reset (senses.getLsbD c.val)
    reflexes := Vector.replicate 8 none
    notices := .const .reset
    sessions := .const .reset
    ports := ⟨.reset selectsLow.a, .reset selectsLow.b, .reset selectsLow.c, .reset selectsLow.d⟩
    resetN := true
    choices := 0
    pending := [] }

/-- The machine right after reset, RESET_N released. DESIGN CHOICE (log entry 1): the other input pins, which the manual leaves
to the outside, stand at chip select high on every port and level 0 on every sense line. -/
def State.reset : State := .afterReset (.const false) 0

end Sys2Proof.Machine
end

