-- ==== Sys2Proof/Machine/Ops.lean ====
section
/-! DEFINITION. The operations every block shares: reading and replacing one record, host sets, times and their order, the open
order of simultaneous events, and the rearm of a channel. -/

namespace Sys2Proof.Machine

/-! ## One record of a bank -/

/-- The port record of port `p` (R165). -/
abbrev State.port (s : State) (p : HostId) : PortRec := s.ports.get p
/-- The session record of host `h` (R152). -/
abbrev State.session (s : State) (h : HostId) : SessionRec := s.sessions.get h
/-- The notice record of host `h` (R133). -/
abbrev State.noticeRec (s : State) (h : HostId) : NoticeRec := s.notices.get h
/-- The output record of line `l` (R62). -/
abbrev State.line (s : State) (l : LineId) : OutputRec := s.lines[l]
/-- The claim record of line `l` (R85). -/
abbrev State.claim (s : State) (l : LineId) : ClaimRec := s.claims[l]
/-- The channel record of channel `c` (R103). -/
abbrev State.channel (s : State) (c : ChannelId) : ChannelRec := s.channels[c]
/-- The reflex of channel `c`, if it has one (R122). -/
abbrev State.reflex (s : State) (c : ChannelId) : Option Reflex := s.reflexes[c]
/-- The current time (R34). -/
abbrev State.now (s : State) : Time := s.tb.now

def State.setTb (s : State) (t : Timebase) : State := { s with tb := t }
def State.setEntries (s : State) (es : List Entry) : State := { s with entries := es }
def State.setUse (s : State) (i : SlotId) (u : BitVec 9) : State := { s with uses := s.uses.set i.val u i.isLt }
def State.setLine (s : State) (l : LineId) (r : OutputRec) : State := { s with lines := s.lines.set l.val r l.isLt }
def State.setClaim (s : State) (l : LineId) (r : ClaimRec) : State := { s with claims := s.claims.set l.val r l.isLt }
def State.setChannel (s : State) (c : ChannelId) (r : ChannelRec) : State := { s with channels := s.channels.set c.val r c.isLt }
def State.setReflex (s : State) (c : ChannelId) (r : Option Reflex) : State := { s with reflexes := s.reflexes.set c.val r c.isLt }
def State.setNotice (s : State) (h : HostId) (r : NoticeRec) : State := { s with notices := s.notices.set h r }
def State.setSession (s : State) (h : HostId) (r : SessionRec) : State := { s with sessions := s.sessions.set h r }
def State.setPort (s : State) (p : HostId) (r : PortRec) : State := { s with ports := s.ports.set p r }
def State.setChoices (s : State) (n : Nat) : State := { s with choices := n }
def State.setResetN (s : State) (v : Level) : State := { s with resetN := v }
def State.setPending (s : State) (q : List Instr) : State := { s with pending := q }

/-- Every output record replaced at once, by a rule that sees its line. -/
def State.mapLines (s : State) (f : LineId → OutputRec → OutputRec) : State :=
  { s with lines := Vector.ofFn fun l => f l s.lines[l] }

/-- Every channel record replaced at once, by a rule that sees its channel. -/
def State.mapChannels (s : State) (f : ChannelId → ChannelRec → ChannelRec) : State :=
  { s with channels := Vector.ofFn fun c => f c s.channels[c] }

/-! ## Hosts and sets of hosts -/

/-- The four hosts, in the order of their codes (Table 10-1). -/
def allHosts : List HostId := [.a, .b, .c, .d]

/-- The twelve lines, in ascending order. -/
def allLines : List LineId := List.finRange 12

/-- The eight channels, in ascending order. -/
def allChannels : List ChannelId := List.finRange 8

/-- The members of a set of hosts. -/
def hostsIn (q : HostSet) : List HostId := allHosts.filter fun h => q.get h

/-- The number of hosts in a set. -/
def hostCount (q : HostSet) : Nat := (hostsIn q).length

/-- The set holds no host. -/
def noHosts (q : HostSet) : Bool := !(q.a || q.b || q.c || q.d)

/-- `h` is the only host of the set. -/
def onlyHost (q : HostSet) (h : HostId) : Bool := q.get h && noHosts (q.set h false)

/-- A host is a watcher while its session is OPEN and its timebase-watch flag is set (R152). -/
def State.watches (s : State) (h : HostId) : Bool := (s.session h).isOpen && (s.session h).watch

/-! ## Time (section 0.3) -/

/-- The lead of frame number `f` while the current frame is `cur` (section 0.3, R10). -/
def leadOf (cur f : BitVec 16) : Nat := (f - cur).toNat

/-- Due times are compared by lead, then by phase (section 0.3, R4). -/
def earlier (cur : BitVec 16) (x y : Time) : Bool :=
  decide (leadOf cur x.frame < leadOf cur y.frame) ||
    (decide (leadOf cur x.frame = leadOf cur y.frame) && decide (x.phase < y.phase))

/-- The governing length of a frame `ahead` frames ahead of the current one (section 0.3, R11). -/
def Timebase.governing (t : Timebase) (ahead : Nat) : Nat :=
  if ahead = 0 then t.length else t.staged.getD t.length

/-! ## Events with no order fixed between them -/

/-- The permutation of a list that a number spells. -/
def permute {α : Type} : Nat → List α → List α
  | _, [] => []
  | n, x :: xs => (permute (n / (xs.length + 1)) xs).insertIdx (n % (xs.length + 1)) x

/-- The order in which the part takes events that reach it 'in either order' (section 0.5), and the state in which that open
choice has been made. One event alone leaves nothing open. DESIGN CHOICE (log entry 2). -/
def State.inOrder {α : Type} (s : State) (events : List α) : List α × State :=
  match events with
  | [] => ([], s)
  | [x] => ([x], s)
  | _ => (permute (Config.openOrder s.choices) events, s.setChoices (s.choices + 1))

/-- Take events that have no order between them, one at a time. -/
def State.takeAll {α : Type} (s : State) (events : List α) (take : State → α → State) : State :=
  (s.inOrder events).1.foldl take (s.inOrder events).2

/-! ## Entries -/

/-- The line an entry acts on, if any (R1). -/
def Deed.line : Deed → Option LineId
  | .onLine _ l => some l
  | _ => none

/-- The channel an entry rearms, if any (R1). -/
def Deed.rearms : Deed → Option ChannelId
  | .rearm c => some c
  | _ => none

/-- The action named (R1). -/
def LineAction.action : LineAction → Action
  | .set => .set
  | .clear => .clear
  | .toggle => .toggle
  | .pulse _ => .pulse

/-- The action named (R1). -/
def Deed.action : Deed → Action
  | .onLine k _ => k.action
  | .rearm _ => .rearm
  | .mark => .mark

/-- The target's number: a line or a channel; absent for MARK (R1). -/
def Deed.target : Deed → Option Nat
  | .onLine _ l => some l.val
  | .rearm c => some c.val
  | .mark => none

/-- The width of a PULSE; absent otherwise (R1). -/
def Deed.width : Deed → Option Nat
  | .onLine (.pulse w) _ => some w
  | _ => none

/-- A reflex's action and target as those of the entry it inserts (R126). -/
def ReflexDeed.deed : ReflexDeed → Deed
  | .onLine k l => .onLine k l
  | .mark => .mark

/-- The lead of an entry's due time (section 0.3). -/
def State.leadIn (s : State) (e : Entry) : Nat := leadOf s.now.frame e.due.frame

/-- The total count (R3). -/
def State.total (s : State) : Nat := s.entries.length

/-- A host's entry count (R3). -/
def State.ownCount (s : State) (h : HostId) : Nat := s.entries.countP fun e => decide (e.owner = h)

/-! ## Rearming a channel -/

/-- A rearm of channel `c`, by request or by entry (R115): GATED becomes OPEN, and the prescale counter becomes 0. A rearm
never reaches an IDLE channel (R116, R117), which it leaves as it is. -/
def State.rearm (s : State) (c : ChannelId) : State :=
  match (s.channel c).state with
  | .idle => s
  | _ => s.setChannel c { s.channel c with state := .opened, counter := 0 }

end Sys2Proof.Machine
end

