-- ==== Sys2Proof/Machine/Operands.lean ====
section
/-! DEFINITION. The encodings of R184 and Table 10-1: the fields of request payloads as they are read, and the items of replies,
notices and descriptors as they are written. A reader answers `none` for a byte that names no value, which the owning block
refuses with BAD_ARG. -/

namespace Sys2Proof.Machine

/-! ## Numbers -/

/-- One byte of a number. -/
def byte (n : Nat) : Byte := BitVec.ofNat 8 n

/-- Two bytes, most significant first (R182). -/
def bytes2 (n : Nat) : List Byte := [byte (n / 256), byte n]

/-- Three bytes, most significant first (R182). -/
def bytes3 (n : Nat) : List Byte := [byte (n / 65536), byte (n / 256), byte n]

/-- The number in two bytes (R182). -/
def number2 (hi lo : Byte) : Nat := hi.toNat * 256 + lo.toNat

/-- The number in three bytes (R182). -/
def number3 (hi mid lo : Byte) : Nat := hi.toNat * 65536 + mid.toNat * 256 + lo.toNat

/-- A time: the frame number in two bytes, then the phase in three (R184). -/
def timeBytes (t : Time) : List Byte := bytes2 t.frame.toNat ++ bytes3 t.phase

/-- A frame length: 0 stands for 16,777,216 (R184); `bytes3` writes that length as 0. -/
def lengthOf (hi mid lo : Byte) : Nat :=
  if number3 hi mid lo = 0 then Config.maxLength else number3 hi mid lo

/-- A timebase prescale: 0 stands for 256 (R184); `byte` writes that prescale as 0. -/
def prescaleOf (b : Byte) : Nat := if b = 0 then 256 else b.toNat

/-- A handle is use count × 128 + slot (R184). -/
def Handle.bytes (h : Handle) : List Byte := bytes2 (h.use.toNat * 128 + h.slot.val)

/-- The handle in two bytes; absent for a slot of 96 to 127 (R184). -/
def handleOf (hi lo : Byte) : Option Handle :=
  let n := number2 hi lo
  if h : n % 128 < 96 then some ⟨⟨n % 128, h⟩, BitVec.ofNat 9 (n / 128)⟩ else none

/-! ## Fields of a request -/

/-- A level, a yes-or-no option or an on-or-off setting (R184). -/
def boolOf (b : Byte) : Option Bool := if b = 0 then some false else if b = 1 then some true else none

def lineOf (b : Byte) : Option LineId := if h : b.toNat < 12 then some ⟨b.toNat, h⟩ else none
def channelOf (b : Byte) : Option ChannelId := if h : b.toNat < 8 then some ⟨b.toNat, h⟩ else none
def tagOf (b : Byte) : Option (Fin 16) := if h : b.toNat < 16 then some ⟨b.toNat, h⟩ else none

def latePolicyOf (b : Byte) : Option LatePolicy := if b = 0 then some .fireLate else if b = 1 then some .drop else none
def claimModeOf (b : Byte) : Option ClaimMode := if b = 0 then some .exclusive else if b = 1 then some .shared else none
def policyOf (b : Byte) : Option Policy :=
  if b = 0 then some .refuse else if b = 1 then some .setWins else if b = 2 then some .clearWins else none
/-- A safe level: 2 for NONE (Table 10-1). -/
def safeOf (b : Byte) : Option (Option Level) :=
  if b = 0 then some (some false) else if b = 1 then some (some true) else if b = 2 then some none else none
def edgeSelectionOf (b : Byte) : Option EdgeSelection :=
  if b = 0 then some .rising else if b = 1 then some .falling else if b = 2 then some .both else none
def filterOf (b : Byte) : Option Filter :=
  if b = 0 then some .off else if b = 1 then some .tick else if b = 2 then some .refclk else none
def syncModeOf (b : Byte) : Option SyncMode := if b = 0 then some .none else if b = 1 then some .align else none

/-- The settings carried by CLAIM and LINE_SETUP. -/
def settingsOf (idle ret safe : Byte) : Option LineSettings := do
  let i ← boolOf idle
  let r ← boolOf ret
  let v ← safeOf safe
  some { idle := i, frameReturn := r, safe := v }

/-- What a CLAIM asks for: the policy byte of an EXCLUSIVE claim is disregarded (R87). -/
def askOf (mode policy : Byte) : Option Ask :=
  match claimModeOf mode with
  | none => none
  | some .exclusive => some .exclusive
  | some .shared => (policyOf policy).map .shared

/-- A set of notice kinds in two bytes; bits 11 to 15 set are refused (R184). -/
def kindSetOf (hi lo : Byte) : Option KindSet :=
  if number2 hi lo < 2048 then some (BitVec.ofNat 11 (number2 hi lo)) else none

/-- A set of condition flags; bits 3 to 7 set are refused (R184). -/
def conditionsOf (b : Byte) : Option Conditions :=
  if b.toNat < 8 then some ⟨b.getLsbD 0, b.getLsbD 1, b.getLsbD 2⟩ else none

/-- The action on a drive line that an action code and a width name; PULSE with a width of 0 is refused (R6, R123). -/
def lineActionOf (action : Byte) (width : Nat) : Option LineAction :=
  if action = 0 then some .set
  else if action = 1 then some .clear
  else if action = 2 then some .toggle
  else if action = 3 then (if width = 0 then none else some (.pulse width))
  else none

/-- Action, target and width of a SCHEDULE (R6, R185): the target of MARK and the width of any action but PULSE are disregarded. -/
def deedOf (action target : Byte) (width : Nat) : Option Deed :=
  if action = 5 then some .mark
  else if action = 4 then (channelOf target).map .rearm
  else do
    let k ← lineActionOf action width
    let l ← lineOf target
    some (.onLine k l)

/-- Action, target and width of a REFLEX_SET (R123): REARM is refused. -/
def reflexDeedOf (action target : Byte) (width : Nat) : Option ReflexDeed :=
  if action = 5 then some .mark
  else do
    let k ← lineActionOf action width
    let l ← lineOf target
    some (.onLine k l)

/-- The notify field: disregarded for MARK, which always notifies (R6, R123). -/
def notifyOf (isMark : Bool) (b : Byte) : Option Bool := if isMark then some true else boolOf b

/-- The recurrence of a SCHEDULE; its period and count are disregarded when one-shot, a period of 0 is refused (R6, R185). -/
def recurrenceOf (present period : Byte) (remaining : Nat) : Option (Option Recurrence) :=
  match boolOf present with
  | none => none
  | some false => some none
  | some true => if period = 0 then none else some (some ⟨period.toNat, remaining⟩)

/-! ## Codes of replies, notices and descriptors (Table 10-1) -/

def flagByte (b : Bool) : Byte := if b then 1 else 0

def HostId.code : HostId → Byte
  | .a => 0 | .b => 1 | .c => 2 | .d => 3

/-- A host, 255 for none. -/
def hostByte : Option HostId → Byte
  | none => 255
  | some h => HostId.code h

/-- A set of hosts: bit 0 A to bit 3 D (R184). -/
def hostSetByte (q : HostSet) : Byte :=
  byte ((if q.a then 1 else 0) + (if q.b then 2 else 0) + (if q.c then 4 else 0) + (if q.d then 8 else 0))

def Action.code : Action → Byte
  | .set => 0 | .clear => 1 | .toggle => 2 | .pulse => 3 | .rearm => 4 | .mark => 5

def LatePolicy.code : LatePolicy → Byte
  | .fireLate => 0 | .drop => 1

def ClaimMode.code : ClaimMode → Byte
  | .exclusive => 0 | .shared => 1

def ClaimState.code : ClaimState → Byte
  | .free => 0 | .exclusive => 1 | .shared => 2

def Policy.code : Policy → Byte
  | .refuse => 0 | .setWins => 1 | .clearWins => 2

/-- A level that may be absent: 2 stands for NONE (safe level) and for high impedance (pin). -/
def levelOrByte : Option Level → Byte
  | none => 2
  | some v => flagByte v

def OutputState.code : OutputState → Byte
  | .driven => 0 | .held => 1

def EdgeSelection.code : EdgeSelection → Byte
  | .rising => 0 | .falling => 1 | .both => 2

def EdgeDir.code : EdgeDir → Byte
  | .rising => 0 | .falling => 1

def Filter.code : Filter → Byte
  | .off => 0 | .tick => 1 | .refclk => 2

def ChannelState.code : ChannelState → Byte
  | .idle => 0 | .opened => 1 | .gated => 2

def TbMode.code : TbMode → Byte
  | .halted => 0 | .awaitingSync => 1 | .running => 2 | .refLost => 3

def SyncMode.code : SyncMode → Byte
  | .none => 0 | .align => 1

def SyncLock.code : SyncLock → Byte
  | .searching => 0 | .locked => 1 | .lost => 2

def RefVerdict.code : RefVerdict → Byte
  | .present => 0 | .absent => 1

def TbCause.code : TbCause → Byte
  | .start => 0 | .stop => 1 | .pendingStop => 2 | .runLimit => 3 | .refLost => 4 | .refBack => 5 | .discard => 6

def SyncNews.code : SyncNews → Byte
  | .locked => 0 | .early => 1 | .lost => 2

def EvictReason.code : EvictReason → Byte
  | .frameLength => 0 | .restart => 1 | .collide => 2

def RemovalReason.code : RemovalReason → Byte
  | .released => 0 | .unsubscribed => 1

def EndCause.code : EndCause → Byte
  | .none => 0 | .close => 1 | .silence => 2 | .portReset => 3 | .deviceReset => 4

/-- Table 10-4. -/
def Status.code : Status → Byte
  | .ok => 0 | .staged => 1 | .queued => 2 | .empty => 3
  | .badCrc => 16 | .badOpcode => 17 | .badLength => 18 | .badArg => 19 | .noSession => 20
  | .already => 32 | .notHolder => 33 | .held => 34 | .notOwner => 35 | .busy => 36 | .state => 37 | .noRef => 38
  | .full => 48 | .quota => 49 | .late => 50 | .tooFar => 51 | .phaseRange => 52 | .collide => 53 | .notAllowed => 54
  | .noEntry => 55 | .notSubscribed => 56

/-- Kind codes 1 to 11. -/
def NoticeKind.code : NoticeKind → Nat
  | .fired => 1 | .capture => 2 | .expired => 3 | .evicted => 4 | .cancelled => 5 | .reflexLost => 6 | .reflexRemoved => 7
  | .claimGranted => 8 | .tbState => 9 | .tbFrame => 10 | .syncEvent => 11

/-- The kind of a notice (R135). -/
def NoticeBody.kind : NoticeBody → NoticeKind
  | .fired .. => .fired
  | .capture .. => .capture
  | .expired .. => .expired
  | .evicted .. => .evicted
  | .cancelled .. => .cancelled
  | .reflexLost .. => .reflexLost
  | .reflexRemoved .. => .reflexRemoved
  | .claimGranted .. => .claimGranted
  | .tbState .. => .tbState
  | .tbFrame .. => .tbFrame
  | .syncEvent .. => .syncEvent

/-- Membership of a kind in a set of kinds (R184). -/
def KindSet.has (m : KindSet) (k : NoticeKind) : Bool := m.getLsbD (k.code - 1)

/-- A set of condition flags as one byte (R184). -/
def conditionsByte (c : Conditions) : Byte :=
  byte ((if c.noticeLoss then 1 else 0) + (if c.tbAlert then 2 else 0) + (if c.frameError then 4 else 0))

/-- A target's number, 255 for an absent one (Table 10-2). -/
def targetByte : Option Nat → Byte
  | none => 255
  | some n => byte n

/-- An optional item: a presence byte, then the item, or zeros of its length (R186). -/
def optionalItem (len : Nat) : Option (List Byte) → List Byte
  | none => 0 :: List.replicate len 0
  | some bs => 1 :: bs

/-- Byte 11 of a DONE notice: origin, action, target, with 15 for the absent target of MARK (R187). -/
def firedTail (action : Action) (target : Option Nat) (origin : Origin) : Byte :=
  byte ((match origin with | .host => 0 | .reflex _ => 128) + action.code.toNat * 16 + target.getD 15)

/-- Bytes 7 to 11 of a notice (R187). -/
def NoticeBody.fieldBytes : NoticeBody → List Byte
  | .fired h act tgt _ _ _ rem org =>
    h.bytes ++ (match org with | .host => bytes2 rem | .reflex c => [byte c.val, 0]) ++ [firedTail act tgt org]
  | .capture c e q => [byte c.val, e.code] ++ bytes2 q.toNat ++ [0]
  | .expired h tgt => h.bytes ++ [targetByte tgt, 0, 0]
  | .evicted h r => h.bytes ++ [r.code, 0, 0]
  | .cancelled h r => h.bytes ++ [r.code, 0, 0]
  | .reflexLost c st => [byte c.val, st.code, 0, 0, 0]
  | .reflexRemoved c r => [byte c.val, r.code, 0, 0, 0]
  | .claimGranted l m p => [byte l.val, m.code, p.code, 0, 0]
  | .tbState m c => [m.code, c.code, 0, 0, 0]
  | .tbFrame n => bytes3 n ++ [0, 0]
  | .syncEvent n k => [n.code, byte k, 0, 0, 0]

/-- Bits 5 to 7 of byte 0: resulting level, late flag and final flag of a DONE, 0 for every other kind (R187). -/
def NoticeBody.flagBits : NoticeBody → Nat
  | .fired _ _ _ lvl late fin _ _ => (if lvl then 32 else 0) + (if late then 64 else 0) + (if fin then 128 else 0)
  | _ => 0

/-- The twelve bytes of a notice (R187). -/
def Notice.bytes (n : Notice) : List Byte :=
  [byte (n.body.kind.code + (if n.urgent then 16 else 0) + n.body.flagBits), n.number] ++ timeBytes n.stamp ++ n.body.fieldBytes

/-- Byte 16 of a descriptor: 255 for HOST, else the channel (R188). -/
def originByte : Origin → Byte
  | .host => 255
  | .reflex c => byte c.val

/-- Byte 15 of a descriptor: group tag, notify and late policy (R188). -/
def optionsByte (e : Entry) : Byte :=
  byte (e.tag.val + (if e.notify then 16 else 0) + (match e.late with | .fireLate => 0 | .drop => 32))

/-- The eighteen-byte entry descriptor, for an entry of rank `rank` (R188). -/
def Entry.descriptor (e : Entry) (rank : Nat) : List Byte :=
  e.handle.bytes ++ [HostId.code e.owner, e.deed.action.code, targetByte e.deed.target] ++ timeBytes e.due ++
    bytes2 (e.deed.width.getD 0) ++
    (match e.recurrence with | none => [0, 0, 0] | some r => byte r.period :: bytes2 r.remaining) ++
    [optionsByte e, originByte e.origin, byte rank]

end Sys2Proof.Machine
end

