-- ==== Sys2Proof/Machine/Frames.lean ====
section
/-! DEFINITION. Frames: the CRC, the bytes of a reply frame, and the classification of what a transaction shifted in. -/

namespace Sys2Proof.Machine

/-- One bit of the CRC (R183, steps 3 and 4). -/
def crcBit (r : Byte) (data : Bool) : Byte :=
  if r.getLsbD 7 != data then (r <<< 1) ^^^ 7 else r <<< 1

/-- The bits of a byte, most significant first (R182, R183). -/
def bitsOf (b : Byte) : List Bool := [7, 6, 5, 4, 3, 2, 1, 0].map fun i => b.getLsbD i

/-- The CRC of a frame's bytes (R183): generator x^8 + x^2 + x + 1, initial value 0. -/
def crc8 (bs : List Byte) : Byte := (bs.flatMap bitsOf).foldl crcBit 0

/-- A complete request frame (R182); its length byte is the length of its payload. -/
structure RequestFrame where
  opcode : Byte
  tag : Byte
  payload : List Byte
  crc : Byte
  deriving DecidableEq, Repr

/-- The bytes of a request frame before its CRC (R182). -/
def RequestFrame.body (f : RequestFrame) : List Byte := f.opcode :: f.tag :: byte f.payload.length :: f.payload

/-- The CRC of a frame matches its bytes (R172). -/
def RequestFrame.sound (f : RequestFrame) : Bool := decide (f.crc = crc8 f.body)

/-- The class of a receive assembly (R170). -/
inductive AssemblyClass where
  | idle | runt | overLong
  | complete (frame : RequestFrame)
  deriving DecidableEq, Repr

/-- Every byte is a fill byte, or there is none. -/
def allFill (bs : List Byte) : Bool := bs.all fun b => decide (b = Config.fill)

/-- Classification of the receive assembly; the first case that fits gives the class (R170). -/
def classify (bs : List Byte) : AssemblyClass :=
  if allFill bs then .idle
  else match bs with
    | op :: tag :: len :: rest =>
      let n := len.toNat
      if Config.maxPayload < n then .overLong
      else if rest.length < n + 1 then .runt
      else if allFill (rest.drop (n + 1)) then .complete ⟨op, tag, rest.take n, rest.getD n 0⟩
      else .overLong
    | _ => .runt

/-- The flag byte of a reply: bit 0 PREV_UNREAD, bit 1 NOTICES_HELD, bit 2 ATTENTION (R182). -/
def Reply.flagsByte (r : Reply) : Byte :=
  byte ((if r.prevUnread then 1 else 0) + (if r.noticesHeld then 2 else 0) + (if r.attention then 4 else 0))

/-- The bytes of a reply frame (R182), its CRC last. -/
def Reply.bytes (r : Reply) : List Byte :=
  let body := r.status.code :: r.tag :: r.flagsByte :: byte r.payload.length :: r.payload
  body ++ [crc8 body]

/-- The EMPTY frame shifted out while the slot is absent (R167). -/
def Reply.emptyFrame : Reply :=
  { status := .empty, tag := 0, prevUnread := false, noticesHeld := false, attention := false, payload := [] }

/-- One row of Table 10-3: a request's code, its payload length, and whether it is sessionless (R153). -/
structure RequestRow where
  code : Nat
  length : Nat
  sessionless : Bool
  deriving DecidableEq, Repr

/-- Table 10-3, in order, with the sessionless requests of R153. -/
def requestTable : List RequestRow :=
  [⟨0, 0, true⟩, ⟨1, 2, true⟩, ⟨2, 0, false⟩, ⟨3, 0, true⟩, ⟨4, 0, true⟩, ⟨5, 0, true⟩] ++
  [⟨8, 1, false⟩, ⟨9, 4, false⟩, ⟨10, 1, false⟩] ++
  [⟨16, 0, false⟩, ⟨17, 0, false⟩, ⟨18, 4, false⟩, ⟨19, 1, false⟩, ⟨20, 3, false⟩, ⟨21, 4, false⟩, ⟨22, 1, false⟩,
    ⟨23, 0, true⟩, ⟨24, 0, true⟩] ++
  [⟨32, 16, false⟩, ⟨33, 2, false⟩, ⟨34, 1, false⟩, ⟨35, 2, false⟩, ⟨36, 0, false⟩] ++
  [⟨40, 7, false⟩, ⟨41, 1, false⟩] ++
  [⟨48, 4, false⟩, ⟨49, 1, false⟩, ⟨50, 2, false⟩, ⟨51, 1, false⟩, ⟨52, 1, false⟩] ++
  [⟨56, 5, false⟩, ⟨57, 1, false⟩, ⟨58, 1, false⟩, ⟨59, 1, false⟩, ⟨60, 1, false⟩] ++
  [⟨64, 11, false⟩, ⟨65, 1, false⟩]

/-- An opcode is the code of a request (R173, check 2). -/
def namesRequest (opcode : Byte) : Bool := requestTable.any fun r => decide (r.code = opcode.toNat)

end Sys2Proof.Machine
end

