-- ==== Sys2Proof/Machine/Flags.lean ====
section
/-! DEFINITION. Every flag the part computes: the attention outputs, the condition flags, the flags of a reply, the pins, and the
frame error count that goes with FRAME_ERROR. -/

namespace Sys2Proof.Machine

/-! ## Attention and conditions (chapter 7) -/

/-- A condition flag of the record is set. -/
def Conditions.any (c : Conditions) : Bool := c.noticeLoss || c.tbAlert || c.frameError

/-- The notice queue of a host: urgent notices first (R133, R141). -/
def NoticeRec.held (r : NoticeRec) : List Notice := r.urgent ++ r.routine

/-- What the attention output must be: asserted exactly when the session is open and the queue holds a notice whose kind is in
the attention mask or a condition flag is set (R146). -/
def NoticeRec.wantsAttention (r : NoticeRec) (isOpen : Bool) : Bool :=
  isOpen && (r.held.any (fun n => KindSet.has r.attentionMask n.body.kind) || r.conditions.any)

/-- Settle host `h`'s attention output (R146). -/
def State.settle (s : State) (h : HostId) : State :=
  s.setNotice h { s.noticeRec h with attention := (s.noticeRec h).wantsAttention (s.session h).isOpen }

/-- Replace host `h`'s notice record and settle its attention output (R146). -/
def State.putNotices (s : State) (h : HostId) (r : NoticeRec) : State := (s.setNotice h r).settle h

/-- One lost notice: the count saturates and NOTICE_LOSS is set (R140). -/
def NoticeRec.loseOne (r : NoticeRec) : NoticeRec :=
  { r with lostCount := min (r.lostCount + 1) Config.saturation, conditions := { r.conditions with noticeLoss := true } }

/-- Set TB_ALERT for host `h` if its session is open (R143). -/
def State.alertHost (s : State) (h : HostId) : State :=
  if (s.session h).isOpen then
    s.putNotices h { s.noticeRec h with conditions := { (s.noticeRec h).conditions with tbAlert := true } }
  else s

/-- Set TB_ALERT for every open session at once (R53, R55, R143). -/
def State.alertAll (s : State) : State := allHosts.foldl State.alertHost s

/-- Set FRAME_ERROR for host `h` if its session is open (R143, R172). -/
def State.flagFrameError (s : State) (h : HostId) : State :=
  if (s.session h).isOpen then
    s.putNotices h { s.noticeRec h with conditions := { (s.noticeRec h).conditions with frameError := true } }
  else s

/-! ## Frame errors and reply flags (chapter 9) -/

/-- One frame error on port `p`: the count saturates at 255 (R180). -/
def State.countFrameError (s : State) (p : HostId) : State :=
  s.setPort p { s.port p with frameErrors := min ((s.port p).frameErrors + 1) Config.saturation }

/-- NOTICES_HELD: the host's queue holds at least one notice (R174). -/
def NoticeRec.anyHeld (r : NoticeRec) : Bool := !r.held.isEmpty

/-- PREV_UNREAD: the slot holds a reply whose unread flag is set, whatever the session (R174; DEDUCED, log entry 21). -/
def PortRec.prevUnread (r : PortRec) : Bool := r.slot.isSome && r.unread

/-! ## Output pins -/

/-- The pin of a drive line (R63): `none` is high impedance. -/
def State.pin (s : State) (l : LineId) : Option Level :=
  match (s.claim l).state with
  | .free => none
  | _ => match (s.line l).output with
    | .driven => some (s.line l).level
    | .held => some (s.line l).heldLevel

/-- The data output of a port (R166, R167, R181): high impedance while RESET_N is low and while chip select is high; while
SHIFTING, the bits of the outgoing frame and then fill bits, the first placed at chip select falling and each further one at a
falling clock edge; fill bits while ABANDONED (R177). -/
def State.sdo (s : State) (p : HostId) : Option Level :=
  if s.resetN = false then none
  else match (s.port p).transaction with
  | .idle => none
  | .shifting => some (((s.port p).outgoing.flatMap bitsOf).getD (s.port p).bitsOut true)
  | .abandoned => some true

/-- The ATN pin of a host: active low (R146); high while RESET_N is low, since every session is then CLOSED (R150). -/
def State.atn (s : State) (h : HostId) : Level := !(s.noticeRec h).attention

end Sys2Proof.Machine
end

