-- ==== Sys2Proof/Machine/NoticeUnit.lean ====
section
/-! DEFINITION. The notice unit: arrival, overflow, reading, acknowledgement, maps, and its part of opening and ending a session
(chapter 7). -/

namespace Sys2Proof.Machine

/-- The notice as host record `r` numbers and classes it at arrival (R137, R138). -/
def NoticeRec.stampOf (r : NoticeRec) (stamp : Time) (body : NoticeBody) : Notice :=
  { number := r.nextNumber, urgent := KindSet.has r.urgencyMap body.kind, stamp, body }

/-- A numbered notice joins the tail of its class list (R139). -/
def NoticeRec.join (r : NoticeRec) (n : Notice) : NoticeRec :=
  if n.urgent then { r with urgent := r.urgent ++ [n] } else { r with routine := r.routine ++ [n] }

/-- A numbered notice finds its place, or is lost, or displaces the oldest routine notice (R139, R140). -/
def NoticeRec.place (r : NoticeRec) (n : Notice) : NoticeRec :=
  if r.held.length < Config.queueCapacity then r.join n
  else if n.urgent then
    match r.routine with
    | [] => r.loseOne
    | _ :: rest => { r with urgent := r.urgent ++ [n], routine := rest }.loseOne
  else r.loseOne

/-- A notice arrives at an open host's record: it takes the next number whether or not it finds a place (R137). -/
def NoticeRec.arrive (r : NoticeRec) (stamp : Time) (body : NoticeBody) : NoticeRec :=
  { r with nextNumber := r.nextNumber + 1 }.place (r.stampOf stamp body)

/-- Send host `h` a notice (R136 to R140): one addressed to a closed session is discarded. -/
def State.notifyAt (s : State) (h : HostId) (stamp : Time) (body : NoticeBody) : State :=
  if (s.session h).isOpen then s.putNotices h ((s.noticeRec h).arrive stamp body) else s

/-- Send host `h` a notice stamped with the current time (R134). -/
def State.notify (s : State) (h : HostId) (body : NoticeBody) : State := s.notifyAt h s.now body

/-- Send each host of a list the same notice. -/
def State.notifyEach (s : State) (hs : List HostId) (stamp : Time) (body : NoticeBody) : State :=
  hs.foldl (fun t h => t.notifyAt h stamp body) s

/-- The first `n` notices in reading order: urgent ones first, each class oldest first (R141). -/
def NoticeRec.firstN (r : NoticeRec) (n : Nat) : List Notice := r.held.take n

/-- The record without its first `n` notices in reading order (R141). -/
def NoticeRec.dropN (r : NoticeRec) (n : Nat) : NoticeRec :=
  { r with urgent := r.urgent.drop n, routine := r.routine.drop (n - r.urgent.length) }

/-- Acknowledge the named conditions; naming NOTICE_LOSS zeroes the lost count (R144). -/
def NoticeRec.acknowledge (r : NoticeRec) (named : Conditions) : NoticeRec :=
  { r with
    conditions :=
      { noticeLoss := r.conditions.noticeLoss && !named.noticeLoss
        tbAlert := r.conditions.tbAlert && !named.tbAlert
        frameError := r.conditions.frameError && !named.frameError }
    lostCount := if named.noticeLoss then 0 else r.lostCount }

/-- The notice unit's part of a session end (R149). -/
def NoticeRec.flushed (r : NoticeRec) : NoticeRec :=
  { r with urgent := [], routine := [], lostCount := 0, conditions := ⟨false, false, false⟩, attention := false }

end Sys2Proof.Machine
end

