-- ==== Sys2Proof/Machine/Ports.lean ====
section
/-! DEFINITION. The host ports: transactions, read-out, the taking and checking of a complete frame, the reply, and the meanings
of the port's own rows (chapter 9). A row whose event the state does not hold (a chip select that is already low, an assembly
of another class) does not take place and changes nothing: DESIGN CHOICE (log entry 3). -/

namespace Sys2Proof.Machine

/-! ## Replies -/

/-- Place the reply to a taken frame in port `p`'s slot (R174). PREV_UNREAD is read from the slot in a closed session too: DEDUCED,
log entry 21. -/
def State.placeReply (s : State) (p : HostId) (tag : Byte) (status : Status) (payload : List Byte) : State :=
  s.setPort p
    { s.port p with
      slot := some
        { status, tag, prevUnread := (s.port p).prevUnread, noticesHeld := (s.noticeRec p).anyHeld,
          attention := (s.noticeRec p).attention, payload }
      unread := true }

/-- What a block answers to a request: the state it leaves, a status and a payload (R173, check 5). -/
structure Answer where
  state : State
  status : Status
  payload : List Byte

/-- The request was carried out. -/
def State.accept (s : State) (payload : List Byte) : Answer := ⟨s, .ok, payload⟩

/-- The request was refused, with the items its rule names (R186); no state changes. -/
def State.refuse (s : State) (status : Status) (payload : List Byte := []) : Answer := ⟨s, status, payload⟩

/-- A block: it answers a request of a host, given its payload. -/
abbrev Block := HostId → List Byte → State → Answer

/-! ## The end of a transaction -/

/-- Read-out: the slot's reply has been read when the whole outgoing frame was shifted out (R169). -/
def PortRec.readOut (r : PortRec) : PortRec :=
  { r with unread := r.unread && decide (r.bytesOut < r.outgoing.length) }

/-- Chip select rises on a shifting port: read-out, and the transaction is over (R166, R168 step 1). -/
def State.endTransaction (s : State) (p : HostId) : State :=
  s.setPort p { (s.port p).readOut with transaction := .idle }

/-- The complete frame a port takes if its chip select rises now (R168, R170). -/
def State.takenFrame (s : State) (p : HostId) : Option RequestFrame :=
  match (s.port p).transaction with
  | .shifting => match classify (s.port p).assembly with
    | .complete f => some f
    | _ => none
  | _ => none

/-- Restart the silence timer of an open session (R158). -/
def SessionRec.restartTimer (r : SessionRec) : SessionRec :=
  if r.isOpen && decide (0 < r.silenceLimit) then { r with timer := some ⟨0, 0⟩ } else r

/-- Every well-formed frame restarts the silence timer of its host's open session (R158, R172). -/
def State.restartSilence (s : State) (p : HostId) : State := s.setSession p (s.session p).restartTimer

/-- A complete frame whose CRC differs is counted, flagged and answered BAD_CRC (R172). -/
def State.answerBadCrc (s : State) (p : HostId) (tag : Byte) : State :=
  ((s.countFrameError p).flagFrameError p).placeReply p tag .badCrc []

/-- The checks of R173 on a well-formed frame, and the owning block's answer. -/
def State.answerFrame (s : State) (p : HostId) (f : RequestFrame) (row : RequestRow) (block : Block) : State :=
  if f.payload.length ≠ row.length then s.placeReply p f.tag .badLength []
  else if !row.sessionless && !(s.session p).isOpen then s.placeReply p f.tag .noSession []
  else
    let a := block p f.payload s
    a.state.placeReply p f.tag a.status a.payload

/-- Chip select rises on port `p`, whose assembly holds a complete frame with the code of `row` (R168, R172, R173). -/
def State.takeRequest (s : State) (p : HostId) (row : RequestRow) (block : Block) : State :=
  match s.takenFrame p with
  | none => s
  | some f =>
    if f.opcode.toNat ≠ row.code then s
    else if f.sound then ((s.endTransaction p).restartSilence p).answerFrame p f row block
    else (s.endTransaction p).answerBadCrc p f.tag

/-! ## The rows of the port itself -/

/-- The frame a port shifts out in its next transaction (R167). -/
def PortRec.nextOutgoing (r : PortRec) : List Byte := (r.slot.getD Reply.emptyFrame).bytes

/-- The record of a port whose chip select has fallen (R166, R167). -/
def PortRec.selected (r : PortRec) : PortRec :=
  { r with
    transaction := .shifting, assembly := [], bits := [], bytesOut := 0, stall := 0, bitsOut := 0, outgoing := r.nextOutgoing }

/-- Chip select falls (R166, R167). While RESET_N is low no transaction starts (R181). -/
def State.selectPort (s : State) (p : HostId) : State :=
  match (s.port p).transaction with
  | .idle => if s.resetN then s.setPort p (s.port p).selected else s
  | _ => s

/-- CHIP_SELECT_FALLING. -/
def execChipSelectFalling (p : HostId) (s : State) : Host.Outcome State Fault Refusal := .next (s.selectPort p)

/-- The byte that eight bits spell, most significant first (R166). -/
def byteOfBits (bs : List Bool) : Byte := bs.foldl (fun acc b => (acc <<< 1) ||| (if b then 1 else 0)) 0

/-- A port samples one bit at a rising clock edge; the eighth completes a byte in each direction (R166; DEDUCED, log entry 4). -/
def PortRec.sampleBit (r : PortRec) (sdi : Level) : PortRec :=
  if r.bits.length < 7 then { r with bits := r.bits ++ [sdi] }
  else { r with bits := [], assembly := r.assembly ++ [byteOfBits (r.bits ++ [sdi])], bytesOut := r.bytesOut + 1 }

/-- An edge of a port's SPI clock (R166, R177): ignored while IDLE or ABANDONED; while SHIFTING it sets the stall count to 0,
and samples the data input (rising) or moves the data output on (falling). -/
def State.clockPort (s : State) (p : HostId) (edge : ClockEdge) (sdi : Level) : State :=
  match (s.port p).transaction with
  | .shifting =>
    let r := { s.port p with stall := 0 }
    s.setPort p (match edge with | .rising => r.sampleBit sdi | .falling => { r with bitsOut := r.bitsOut + 1 })
  | _ => s

/-- SPI_CLOCK_EDGE. -/
def execSpiClockEdge (p : HostId) (edge : ClockEdge) (sdi : Level) (s : State) : Host.Outcome State Fault Refusal :=
  .next (s.clockPort p edge sdi)

/-- Chip select rises without a complete frame (R168 to R171): an idle transaction only settles the read-out, a runt or over-long
frame is also counted; an abandoned transaction ends with nothing else (R177). -/
def State.endWithoutFrame (s : State) (p : HostId) : State :=
  match (s.port p).transaction with
  | .idle => s
  | .abandoned => s.setPort p { s.port p with transaction := .idle }
  | .shifting => match classify (s.port p).assembly with
    | .complete _ => s
    | .idle => s.endTransaction p
    | .runt | .overLong => (s.endTransaction p).countFrameError p

/-- TRANSACTION_END. -/
def execTransactionEnd (p : HostId) (s : State) : Host.Outcome State Fault Refusal := .next (s.endWithoutFrame p)

/-- A stalled transaction is abandoned (R177). -/
def State.abandon (s : State) (p : HostId) : State :=
  match (s.port p).transaction with
  | .shifting =>
    let t := s.setPort p
      { (s.port p).readOut with transaction := .abandoned, assembly := [], bits := [], stall := Config.stallLimit }
    if allFill (s.port p).assembly then t else t.countFrameError p
  | _ => s

/-- The next housekeeping period takes the stall count of port `p` to its limit (R177). -/
def State.stallsNext (s : State) (p : HostId) : Bool := decide (Config.stallLimit ≤ (s.port p).stall + 1)

/-- TRANSACTION_ABANDONED: the housekeeping period that takes the stall count of a SHIFTING port to 64 (R177); a port whose count has
further to go, or that is not SHIFTING, has no such event (log entries 3 and 7). -/
def execTransactionAbandoned (p : HostId) (s : State) : Host.Outcome State Fault Refusal :=
  .next (if s.stallsNext p then s.abandon p else s)

/-- A complete frame whose opcode names no request is answered BAD_OPCODE, or BAD_CRC if its CRC fails (R172, R173). -/
def State.takeUnknown (s : State) (p : HostId) : State :=
  match s.takenFrame p with
  | none => s
  | some f =>
    if namesRequest f.opcode then s
    else if f.sound then ((s.endTransaction p).restartSilence p).placeReply p f.tag .badOpcode []
    else (s.endTransaction p).answerBadCrc p f.tag

/-- BAD_OPCODE_FRAME. -/
def execBadOpcodeFrame (p : HostId) (s : State) : Host.Outcome State Fault Refusal := .next (s.takeUnknown p)

/-- NOP is answered EMPTY and changes nothing else (R178). -/
def nopBlock : Block := fun _ _ s => ⟨s, .empty, []⟩

/-- NOP. -/
def execNop (p : HostId) (s : State) : Host.Outcome State Fault Refusal := .next (s.takeRequest p ⟨0, 0, true⟩ nopBlock)

/-! ## Requests of the notice unit -/

/-- READ_NOTICES (R141). -/
def readNoticesBlock : Block := fun h payload s =>
  match payload with
  | [n] =>
    if n.toNat = 0 ∨ 4 < n.toNat then s.refuse .badArg
    else
      (s.putNotices h ((s.noticeRec h).dropN n.toNat)).accept (((s.noticeRec h).firstN n.toNat).flatMap Notice.bytes)
  | _ => s.refuse .badArg

/-- READ_NOTICES. -/
def execReadNotices (p : HostId) (s : State) : Host.Outcome State Fault Refusal :=
  .next (s.takeRequest p ⟨8, 1, false⟩ readNoticesBlock)

/-- SET_NOTICE_MAPS (R147): the reply carries the two maps that were in force. -/
def setNoticeMapsBlock : Block := fun h payload s =>
  match payload with
  | [u1, u0, a1, a0] =>
    match kindSetOf u1 u0, kindSetOf a1 a0 with
    | some urgency, some mask =>
      (s.putNotices h { s.noticeRec h with urgencyMap := urgency, attentionMask := mask }).accept
        (bytes2 (s.noticeRec h).urgencyMap.toNat ++ bytes2 (s.noticeRec h).attentionMask.toNat)
    | _, _ => s.refuse .badArg
  | _ => s.refuse .badArg

/-- SET_NOTICE_MAPS. -/
def execSetNoticeMaps (p : HostId) (s : State) : Host.Outcome State Fault Refusal :=
  .next (s.takeRequest p ⟨9, 4, false⟩ setNoticeMapsBlock)

/-- ACK_CONDITIONS (R144): the reply carries the flags and the lost count as they stood. -/
def ackConditionsBlock : Block := fun h payload s =>
  match payload with
  | [b] =>
    match conditionsOf b with
    | some named =>
      (s.putNotices h ((s.noticeRec h).acknowledge named)).accept
        [conditionsByte (s.noticeRec h).conditions, byte (s.noticeRec h).lostCount]
    | none => s.refuse .badArg
  | _ => s.refuse .badArg

/-- ACK_CONDITIONS. -/
def execAckConditions (p : HostId) (s : State) : Host.Outcome State Fault Refusal :=
  .next (s.takeRequest p ⟨10, 1, false⟩ ackConditionsBlock)

end Sys2Proof.Machine
end

