-- ==== Sys2Proof/Machine/LineDriver.lean ====
section
/-! DEFINITION. The line driver: firing groups, pulses, frame-return, safe levels, grant and free, and the output requests
(chapter 3). -/

namespace Sys2Proof.Machine

/-! ## Firing groups -/

/-- The active level: the opposite of the idle level (R62). -/
def OutputRec.active (r : OutputRec) : Level := !r.settings.idle

/-- A group in progress on an EXCLUSIVE or REFUSE line: the record, and whether the pulse that stands was started by this group
with no SET, CLEAR or TOGGLE since (R66). -/
structure GroupRun where
  out : OutputRec
  ownPulse : Bool
  deriving DecidableEq, Repr

/-- One action of a group applied in list order (R65, R66). -/
def GroupRun.apply (g : GroupRun) : LineAction → GroupRun
  | .set => ⟨{ g.out with level := true, pulse := none }, false⟩
  | .clear => ⟨{ g.out with level := false, pulse := none }, false⟩
  | .toggle => ⟨{ g.out with level := !g.out.level, pulse := none }, false⟩
  | .pulse w =>
    ⟨{ g.out with level := g.out.active, pulse := some (if g.ownPulse then max w (g.out.pulse.getD 0) else w) }, true⟩

/-- A group applied one action after another (R65). -/
def OutputRec.applyInOrder (r : OutputRec) (group : List LineAction) : OutputRec :=
  (group.foldl GroupRun.apply ⟨r, false⟩).out

/-- The level an action asks for on a SET_WINS or CLEAR_WINS line (R67). A TOGGLE never stands in such a group (R64). -/
def OutputRec.asks (r : OutputRec) : LineAction → Option Level
  | .set => some true
  | .clear => some false
  | .pulse _ => some r.active
  | .toggle => none

/-- The widths of a group's PULSE entries. -/
def pulseWidths (group : List LineAction) : List Nat :=
  group.filterMap fun k => match k with
    | .pulse w => some w
    | _ => none

/-- The widest PULSE of a group, if it holds one (R68). -/
def widestPulse (group : List LineAction) : Option Nat :=
  match pulseWidths group with
  | [] => none
  | w :: ws => some (ws.foldl max w)

/-- A group combined into one outcome by SET_WINS (`setWins`) or CLEAR_WINS, and its pulse settled (R67, R68). -/
def OutputRec.applyCombined (r : OutputRec) (setWins : Bool) (group : List LineAction) : OutputRec :=
  let asked := group.filterMap r.asks
  let result := if setWins then asked.any id else asked.all id
  { r with level := result, pulse := if result = r.active then widestPulse group else none }

/-- A firing group applied by the line's claim state and policy (R64); a FREE line takes none (R63). -/
def OutputRec.applyGroup (r : OutputRec) (claim : ClaimRec) (group : List LineAction) : OutputRec :=
  match claim.state with
  | .free => r
  | .exclusive => r.applyInOrder group
  | .shared => match claim.policy with
    | .refuse => r.applyInOrder group
    | .setWins => r.applyCombined true group
    | .clearWins => r.applyCombined false group

/-! ## Ticks, wraps and loss of the reference -/

/-- One tick of a pulse countdown (R71). -/
def OutputRec.countDown (r : OutputRec) : OutputRec :=
  match r.pulse with
  | none => r
  | some n => if n ≤ 1 then { r with pulse := none, level := r.settings.idle } else { r with pulse := some (n - 1) }

/-- Frame-return at a wrap (R74). -/
def OutputRec.frameReturned (r : OutputRec) : OutputRec :=
  if r.settings.frameReturn then { r with level := r.settings.idle, pulse := none } else r

/-- The safe level applied (R80). -/
def OutputRec.madeSafe (r : OutputRec) : OutputRec :=
  match r.settings.safe with
  | none => r
  | some v => { r with output := .held, heldLevel := v }

/-- A rule applied to the record of every claimed line; a FREE line is untouched (R63). -/
def State.claimedLines (s : State) (f : OutputRec → OutputRec) : State :=
  s.mapLines fun l r => if (s.claim l).state = .free then r else f r

/-- Every pulse counted down by one tick (R71). -/
def State.countPulses (s : State) : State := s.claimedLines OutputRec.countDown

/-- Frame-return on every claimed line (R74). -/
def State.frameReturn (s : State) : State := s.claimedLines OutputRec.frameReturned

/-- Safe levels on every claimed line (R80). -/
def State.applySafeLevels (s : State) : State := s.claimedLines OutputRec.madeSafe

/-! ## Grant and free -/

/-- The record of a granted line (R81). -/
def OutputRec.granted (settings : LineSettings) : OutputRec :=
  { level := settings.idle, output := .driven, heldLevel := false, pulse := none, settings }

/-- The line driver's answer to a grant of line `l`: in REF_LOST the safe level is then applied (R81). -/
def State.grantOutput (s : State) (l : LineId) (settings : LineSettings) : State :=
  s.setLine l (match s.tb.mode with
    | .refLost => (OutputRec.granted settings).madeSafe
    | _ => OutputRec.granted settings)

/-- The line driver's answer to a line that becomes FREE (R82). -/
def State.freeOutput (s : State) (l : LineId) : State := s.setLine l .cleared

/-! ## Output requests -/

/-- Checks 2 and 3 of R75: the requester holds the line, and holds it alone. -/
def State.soleControl (s : State) (h : HostId) (l : LineId) : Option Status :=
  if !(s.claim l).holders.get h then some .notOwner
  else if onlyHost (s.claim l).holders h then none
  else some .busy

/-- LINE_SETUP (R75, R79). -/
def lineSetupBlock : Block := fun h payload s =>
  match payload with
  | [line, idle, ret, safe] =>
    match lineOf line, settingsOf idle ret safe with
    | some l, some settings =>
      match s.soleControl h l with
      | some st => s.refuse st
      | none => (s.setLine l { s.line l with settings }).accept []
    | _, _ => s.refuse .badArg
  | _ => s.refuse .badArg

/-- OUTPUT_HOLD (R75, R76). -/
def outputHoldBlock : Block := fun h payload s =>
  match payload with
  | [line] =>
    match lineOf line with
    | some l =>
      match s.soleControl h l with
      | some st => s.refuse st
      | none => match (s.line l).output with
        | .held => s.refuse .already
        | .driven => (s.setLine l { s.line l with output := .held, heldLevel := (s.line l).level }).accept []
    | none => s.refuse .badArg
  | _ => s.refuse .badArg

/-- OUTPUT_FORCE (R75, R77). -/
def outputForceBlock : Block := fun h payload s =>
  match payload with
  | [line, level] =>
    match lineOf line, boolOf level with
    | some l, some v =>
      match s.soleControl h l with
      | some st => s.refuse st
      | none => match (s.line l).output with
        | .driven => s.refuse .state
        | .held => (s.setLine l { s.line l with heldLevel := v }).accept []
    | _, _ => s.refuse .badArg
  | _ => s.refuse .badArg

/-- OUTPUT_FOLLOW (R75, R78). -/
def outputFollowBlock : Block := fun h payload s =>
  match payload with
  | [line] =>
    match lineOf line with
    | some l =>
      match s.soleControl h l with
      | some st => s.refuse st
      | none => match (s.line l).output with
        | .driven => s.refuse .already
        | .held => (s.setLine l { s.line l with output := .driven, heldLevel := false }).accept []
    | none => s.refuse .badArg
  | _ => s.refuse .badArg

/-- The mode of a place (R86). -/
def Ask.mode : Ask → ClaimMode
  | .exclusive => .exclusive
  | .shared _ => .shared

/-- Three places of a LINE_STATUS reply, oldest first, with host 255 and mode 0 for a place not present (R186). -/
def placeBytes (waiting : List Place) : List Byte :=
  [0, 1, 2].flatMap fun i => match waiting[i]? with
    | some w => [HostId.code w.host, w.ask.mode.code]
    | none => [255, 0]

/-- The items of LINE_STATUS (R83, R186). -/
def State.lineStatus (s : State) (l : LineId) : List Byte :=
  let c := s.claim l
  let r := s.line l
  [c.state.code, hostSetByte c.holders, c.policy.code, byte c.waiting.length] ++ placeBytes c.waiting ++
    [flagByte r.settings.idle, flagByte r.settings.frameReturn, levelOrByte r.settings.safe, flagByte r.level, r.output.code,
      flagByte r.heldLevel] ++
    optionalItem 2 (r.pulse.map bytes2) ++ [levelOrByte (s.pin l)]

/-- LINE_STATUS (R83). -/
def lineStatusBlock : Block := fun _ payload s =>
  match payload with
  | [line] =>
    match lineOf line with
    | some l => s.accept (s.lineStatus l)
    | none => s.refuse .badArg
  | _ => s.refuse .badArg

/-- LINE_SETUP. -/
def execLineSetup (p : HostId) (s : State) : Host.Outcome State Fault Refusal :=
  .next (s.takeRequest p ⟨48, 4, false⟩ lineSetupBlock)

/-- OUTPUT_HOLD. -/
def execOutputHold (p : HostId) (s : State) : Host.Outcome State Fault Refusal :=
  .next (s.takeRequest p ⟨49, 1, false⟩ outputHoldBlock)

/-- OUTPUT_FORCE. -/
def execOutputForce (p : HostId) (s : State) : Host.Outcome State Fault Refusal :=
  .next (s.takeRequest p ⟨50, 2, false⟩ outputForceBlock)

/-- OUTPUT_FOLLOW. -/
def execOutputFollow (p : HostId) (s : State) : Host.Outcome State Fault Refusal :=
  .next (s.takeRequest p ⟨51, 1, false⟩ outputFollowBlock)

/-- LINE_STATUS. -/
def execLineStatus (p : HostId) (s : State) : Host.Outcome State Fault Refusal :=
  .next (s.takeRequest p ⟨52, 1, false⟩ lineStatusBlock)

end Sys2Proof.Machine
end

