-- ==== Sys2Proof/Machine/Schedule.lean ====
section
/-! DEFINITION. The schedule: insertion and its ten checks, falling due, recurrence, overtaken entries, evictions and removals,
and the requests on the list (chapter 1). -/

namespace Sys2Proof.Machine

/-! ## The list -/

/-- An entry's place: behind every entry that is not due later (R4). -/
def placeEntry (cur : BitVec 16) (e : Entry) : List Entry → List Entry
  | [] => [e]
  | x :: xs => if earlier cur e.due x.due then e :: x :: xs else x :: placeEntry cur e xs

/-- A slot is free when no entry of the list occupies it (R2). -/
def State.slotFree (s : State) (i : SlotId) : Bool := s.entries.all fun e => decide (e.handle.slot ≠ i)

/-- The lowest-numbered free slot (R2). -/
def State.lowestFree (s : State) : Option SlotId := (List.finRange 96).find? s.slotFree

/-- The entry a handle names; absent for a stale handle (R2). -/
def State.named (s : State) (h : Handle) : Option Entry := s.entries.find? fun e => decide (e.handle = h)

/-- An entry leaves the list: its slot is freed and the slot's use count rises by 1 (R2). -/
def State.leave (s : State) (e : Entry) : State :=
  (s.setEntries (s.entries.eraseP fun x => decide (x.handle.slot = e.handle.slot))).setUse e.handle.slot
    (s.uses[e.handle.slot] + 1)

/-- Entries of the list leave it in list order, each with a notice to its owner, or silently. -/
def State.removeEntries (s : State) (goes : Entry → Bool) (news : Handle → Option NoticeBody) : State :=
  (s.entries.filter goes).foldl
    (fun t e => match news e.handle with
      | none => t.leave e
      | some body => (t.leave e).notify e.owner body) s

/-- Evictions: entries leave with EVICTED (R21, R22). -/
def State.evict (s : State) (goes : Entry → Bool) (reason : EvictReason) : State :=
  s.removeEntries goes fun h => some (.evicted h reason)

/-- Removals demanded by the claim table or the sense unit: entries leave with CANCELLED (R26, R28). -/
def State.withdrawEntries (s : State) (goes : Entry → Bool) (reason : RemovalReason) : State :=
  s.removeEntries goes fun h => some (.cancelled h reason)

/-- Entries leave without notice (R24, R29). -/
def State.removeQuietly (s : State) (goes : Entry → Bool) : State := s.removeEntries goes fun _ => none

/-- Entries whose due phase is not below the frame length `n`, among those of later frames only or of all frames (R21). -/
def State.outOfRange (s : State) (laterOnly : Bool) (n : Nat) (e : Entry) : Bool :=
  decide (n ≤ e.due.phase) && (!laterOnly || decide (0 < s.leadIn e))

/-! ## Insertion -/

/-- An entry offered for insertion: due `ahead` frames ahead of the current one, at `phase`. An offer from a reflex counts
frames ahead unreduced; in one from a host `ahead` is a lead (R10). -/
structure Offer where
  owner : HostId
  deed : Deed
  ahead : Nat
  phase : Nat
  recurrence : Option Recurrence
  tag : Fin 16
  notify : Bool
  late : LatePolicy
  origin : Origin
  deriving DecidableEq, Repr

/-- The due time of an offer (R10). -/
def State.dueOf (s : State) (o : Offer) : Time := ⟨s.now.frame + BitVec.ofNat 16 o.ahead, o.phase⟩

/-- A line is SHARED with policy REFUSE (R13). -/
def ClaimRec.refusing (c : ClaimRec) : Bool := decide (c.state = .shared) && decide (c.policy = .refuse)

/-- An entry of the list acts on line `l` at `due`, on a SHARED line with policy REFUSE (R13, R19). -/
def State.collides (s : State) (l : LineId) (due : Time) : Bool :=
  (s.claim l).refusing && s.entries.any fun e => decide (e.deed.line = some l) && decide (e.due = due)

/-- Check 2: ownership (R7). -/
def State.ownershipFails (s : State) (o : Offer) : Option Status :=
  match o.deed with
  | .onLine _ l => if (s.claim l).holders.get o.owner then none else some .notOwner
  | .rearm c => if (s.channel c).subscribers.get o.owner then none else some .notSubscribed
  | .mark => none

/-- Check 3: TOGGLE on a SHARED line (R8). -/
def State.toggleShared (s : State) (d : Deed) : Bool :=
  match d with
  | .onLine .toggle l => decide ((s.claim l).state = .shared)
  | _ => false

/-- Check 5: the due time is not later than now; a lead from 32768 is a frame behind, but for a reflex's offer (R10). -/
def State.offerLate (s : State) (o : Offer) : Bool :=
  (decide (o.ahead = 0) && decide (o.phase ≤ s.now.phase)) ||
    (decide (o.origin = .host) && decide (Config.behindFrom ≤ o.ahead))

/-- Check 8: collision (R13). -/
def State.offerCollides (s : State) (o : Offer) : Bool :=
  match o.deed.line with
  | none => false
  | some l => s.collides l (s.dueOf o)

/-- Checks 2 to 10, in order: the status of the first that fails (R5). Check 1 is made where the fields are read (R6, R123). -/
def State.offerFails (s : State) (o : Offer) : Option Status :=
  match s.ownershipFails o with
  | some st => some st
  | none =>
    if s.toggleShared o.deed then some .notAllowed
    else if s.tb.mode = .refLost then some .state
    else if s.offerLate o then some .late
    else if Config.horizon < o.ahead then some .tooFar
    else if s.tb.governing o.ahead ≤ o.phase then some .phaseRange
    else if s.offerCollides o then some .collide
    else if Config.capacity ≤ s.total then some .full
    else if Config.quota ≤ s.ownCount o.owner then some .quota
    else none

/-- The entry an accepted offer becomes in slot `i` (R14). -/
def State.entryOf (s : State) (o : Offer) (i : SlotId) : Entry :=
  { handle := ⟨i, s.uses[i]⟩, owner := o.owner, deed := o.deed, due := s.dueOf o, recurrence := o.recurrence, tag := o.tag,
    notify := o.notify, late := o.late, origin := o.origin }

/-- The outcome of an insertion. -/
inductive Inserted where
  | refused (status : Status)
  | joined (state : State) (handle : Handle)

/-- An offer is submitted to the checks and, if it passes, joins the list (R5, R14). A list below its capacity has a free
slot (R2, R3). -/
def State.insert (s : State) (o : Offer) : Inserted :=
  match s.offerFails o with
  | some st => .refused st
  | none => match s.lowestFree with
    | none => .refused .full
    | some i => .joined (s.setEntries (placeEntry s.now.frame (s.entryOf o i) s.entries)) (s.entryOf o i).handle

/-! ## Falling due -/

/-- The two tests of re-insertion on an entry's new due time, in order (R19): the reason it is evicted for, if any. -/
def State.reinsertFails (s : State) (e : Entry) (due : Time) : Option EvictReason :=
  if s.tb.governing (leadOf s.now.frame due.frame) ≤ due.phase then some .frameLength
  else match e.deed.line with
    | none => none
    | some l => if s.collides l due then some .collide else none

/-- An entry goes back to the list one period later, with its handle and its slot (R18). -/
def State.reinsert (s : State) (e : Entry) : State := s.setEntries (placeEntry s.now.frame e s.entries)

/-- The entry taken out of the list, without its slot being freed (R2, re-insertion). -/
def State.takeOut (s : State) (e : Entry) : State :=
  s.setEntries (s.entries.eraseP fun x => decide (x.handle.slot = e.handle.slot))

/-- What follows a firing (R17, R19): the state, whether the entry has left the list, its remaining count after the firing, and
the reason of a failed re-insertion. -/
structure AfterFiring where
  state : State
  final : Bool
  remaining : Nat
  evicted : Option EvictReason

/-- A recurring entry continues one period later, or is evicted (R18, R19). -/
def State.continueEntry (s : State) (e : Entry) (period remaining : Nat) : AfterFiring :=
  let due : Time := ⟨e.due.frame + BitVec.ofNat 16 period, e.due.phase⟩
  match (s.takeOut e).reinsertFails e due with
  | some reason => ⟨s.leave e, true, remaining, some reason⟩
  | none => ⟨(s.takeOut e).reinsert { e with due, recurrence := some ⟨period, remaining⟩ }, false, remaining, none⟩

/-- An entry that has fired leaves the list or is re-inserted (R17). -/
def State.afterFiring (s : State) (e : Entry) : AfterFiring :=
  match e.recurrence with
  | none => ⟨s.leave e, true, 0, none⟩
  | some r =>
    if r.remaining = 1 then ⟨s.leave e, true, 0, none⟩ else s.continueEntry e r.period (r.remaining - 1)

/-- The resulting level an entry's DONE reports: the line's level once its group has been applied; 0 for REARM and MARK (R16). -/
def State.resultLevel (s : State) (d : Deed) : Level :=
  match d.line with
  | some l => (s.line l).level
  | none => false

/-- A REARM entry's handing to the sense unit (R117). -/
def State.rearmBy (s : State) (d : Deed) : State :=
  match d.rearms with
  | some c => s.rearm c
  | none => s

/-- One entry that fires, its line's group having been applied: a REARM acts, the entry leaves or continues, DONE is sent, and
EVICTED where the re-insertion failed (R15 to R19). -/
def State.conclude (s : State) (late : Bool) (e : Entry) : State :=
  let after := (s.rearmBy e.deed).afterFiring e
  let told :=
    if e.notify then
      after.state.notify e.owner
        (.fired e.handle e.deed.action e.deed.target (s.resultLevel e.deed) late after.final after.remaining e.origin)
    else after.state
  match after.evicted with
  | none => told
  | some reason => told.notify e.owner (.evicted e.handle reason)

/-- The firing group of line `l` among entries that fire together, in list order (R15). -/
def groupOn (l : LineId) (fires : List Entry) : List LineAction :=
  fires.filterMap fun e => match e.deed with
    | .onLine k m => if m = l then some k else none
    | _ => none

/-- Every line's firing group applied; groups on different lines are independent (R15, R64). -/
def State.applyGroups (s : State) (fires : List Entry) : State :=
  s.mapLines fun l r => match groupOn l fires with
    | [] => r
    | group => r.applyGroup (s.claim l) group

/-- The entries due at the current time fall due (R15). -/
def State.fireDue (s : State) : State :=
  let due := s.entries.filter fun e => decide (e.due = s.now)
  due.foldl (fun t e => t.conclude false e) (s.applyGroups due)

/-- A DROP entry that an alignment overtakes leaves with EXPIRED (R20). -/
def State.expire (s : State) (e : Entry) : State := (s.leave e).notify e.owner (.expired e.handle e.deed.target)

/-- The entries of the ending frame at an aligned wrap: FIRE_LATE entries fire late, in one group per line, DROP entries expire,
all in list order (R20, R69). -/
def State.overtake (s : State) : State :=
  let gone := s.entries.filter fun e => decide (e.due.frame = s.now.frame)
  gone.foldl (fun t e => match e.late with
      | .fireLate => t.conclude true e
      | .drop => t.expire e)
    (s.applyGroups (gone.filter fun e => decide (e.late = .fireLate)))

/-- A restart: one-shot entries are evicted, and each recurring entry takes its lead as its due frame (R22). The current time
becomes frame 0, phase 0. -/
def State.restart (s : State) : State :=
  let t := s.evict (fun e => e.recurrence.isNone) .restart
  let u := t.setEntries (t.entries.map fun e => { e with due := ⟨BitVec.ofNat 16 (t.leadIn e), e.due.phase⟩ })
  u.setTb { u.tb with now := ⟨0, 0⟩ }

/-! ## Requests on the schedule -/

/-- The offer a SCHEDULE payload decodes to; absent when check 1 fails (R6, R185). -/
def State.offerOf (s : State) (h : HostId) (payload : List Byte) : Option Offer :=
  match payload with
  | [action, target, f1, f0, p2, p1, p0, w1, w0, present, period, r1, r0, tag, late, notify] => do
    let deed ← deedOf action target (number2 w1 w0)
    let recurrence ← recurrenceOf present period (number2 r1 r0)
    let tag ← tagOf tag
    let late ← latePolicyOf late
    let notify ← notifyOf (decide (deed = .mark)) notify
    some
      { owner := h, deed, ahead := leadOf s.now.frame (BitVec.ofNat 16 (number2 f1 f0)), phase := number3 p2 p1 p0, recurrence,
        tag, notify, late, origin := .host }
  | _ => none

/-- SCHEDULE (R5 to R14). -/
def scheduleBlock : Block := fun h payload s =>
  match s.offerOf h payload with
  | none => s.refuse .badArg
  | some o => match s.insert o with
    | .refused st => s.refuse st
    | .joined t handle => t.accept handle.bytes

/-- CANCEL (R23). -/
def cancelBlock : Block := fun h payload s =>
  match payload with
  | [hi, lo] =>
    match handleOf hi lo with
    | none => s.refuse .badArg
    | some handle => match s.named handle with
      | none => s.refuse .noEntry
      | some e => if e.owner = h then (s.leave e).accept [] else s.refuse .notOwner
  | _ => s.refuse .badArg

/-- The entries a CANCEL_GROUP removes (R24). -/
def inGroup (h : HostId) (tag : Nat) (e : Entry) : Bool := decide (e.owner = h) && decide (e.tag.val = tag)

/-- CANCEL_GROUP (R24). -/
def cancelGroupBlock : Block := fun h payload s =>
  match payload with
  | [tag] =>
    if tag.toNat = 0 ∨ 15 < tag.toNat then s.refuse .badArg
    else (s.removeQuietly (inGroup h tag.toNat)).accept [byte (s.entries.countP (inGroup h tag.toNat))]
  | _ => s.refuse .badArg

/-- The rank of an entry: how many stand before it in the list (R25). -/
def State.rank (s : State) (e : Entry) : Nat := s.entries.findIdx fun x => decide (x.handle = e.handle)

/-- QUERY_ENTRY (R25, R188). -/
def queryEntryBlock : Block := fun _ payload s =>
  match payload with
  | [hi, lo] =>
    match handleOf hi lo with
    | none => s.refuse .badArg
    | some handle => match s.named handle with
      | none => s.refuse .noEntry
      | some e => s.accept (e.descriptor (s.rank e))
  | _ => s.refuse .badArg

/-- The due time of the first of a host's entries in list order (R27). -/
def State.earliestOwn (s : State) (h : HostId) : Option Time := (s.entries.find? fun e => decide (e.owner = h)).map Entry.due

/-- SCHEDULE_STATUS (R27). -/
def scheduleStatusBlock : Block := fun h _ s =>
  s.accept
    ([byte s.total, byte (s.ownCount h), byte (Config.capacity - s.total)] ++ optionalItem 5 ((s.earliestOwn h).map timeBytes))

/-- SCHEDULE. -/
def execSchedule (p : HostId) (s : State) : Host.Outcome State Fault Refusal :=
  .next (s.takeRequest p ⟨32, 16, false⟩ scheduleBlock)

/-- CANCEL. -/
def execCancel (p : HostId) (s : State) : Host.Outcome State Fault Refusal :=
  .next (s.takeRequest p ⟨33, 2, false⟩ cancelBlock)

/-- CANCEL_GROUP. -/
def execCancelGroup (p : HostId) (s : State) : Host.Outcome State Fault Refusal :=
  .next (s.takeRequest p ⟨34, 1, false⟩ cancelGroupBlock)

/-- QUERY_ENTRY. -/
def execQueryEntry (p : HostId) (s : State) : Host.Outcome State Fault Refusal :=
  .next (s.takeRequest p ⟨35, 2, false⟩ queryEntryBlock)

/-- SCHEDULE_STATUS. -/
def execScheduleStatus (p : HostId) (s : State) : Host.Outcome State Fault Refusal :=
  .next (s.takeRequest p ⟨36, 0, false⟩ scheduleStatusBlock)

end Sys2Proof.Machine
end

