-- ==== Sys2Proof/Machine/ReflexTable.lean ====
section
/-! DEFINITION. The reflex table: setting and clearing a reflex, the entry inserted on a capture, and the removals (chapter 6). -/

namespace Sys2Proof.Machine

/-! ## Insertion on capture -/

/-- The frames ahead and the phase of a due time `delay` ticks after the current time (R127). -/
def Timebase.advanced (t : Timebase) (delay : Nat) : Nat × Nat :=
  let reach := t.now.phase + delay
  if reach < t.length then (0, reach)
  else
    let past := reach - t.length
    let later := t.staged.getD t.length
    (1 + past / later, past % later)

/-- The entry a reflex on channel `c` offers at a capture (R126, R127). -/
def State.reflexOffer (s : State) (c : ChannelId) (r : Reflex) : Offer :=
  let due := s.tb.advanced r.delay
  { owner := r.owner, deed := r.deed.deed, ahead := due.1, phase := due.2, recurrence := none, tag := r.tag, notify := r.notify,
    late := r.late, origin := .reflex c }

/-- A capture of channel `c` reaches the reflex table (R126, R128): a refused offer is reported with REFLEX_LOST. -/
def State.triggerReflex (s : State) (c : ChannelId) : State :=
  match s.reflex c with
  | none => s
  | some r => match s.insert (s.reflexOffer c r) with
    | .joined t _ => t
    | .refused st => s.notify r.owner (.reflexLost c st)

/-! ## Removal -/

/-- Reflexes removed in ascending order of channel, with REFLEX_REMOVED to their owner, or silently (R129 to R131). -/
def State.removeReflexes (s : State) (goes : ChannelId → Reflex → Bool) (reason : Option RemovalReason) : State :=
  allChannels.foldl
    (fun t c => match t.reflex c with
      | none => t
      | some r =>
        if goes c r then
          match reason with
          | none => t.setReflex c none
          | some why => (t.setReflex c none).notify r.owner (.reflexRemoved c why)
        else t) s

/-- A reflex of host `h` targets line `l` (R129). -/
def Reflex.targets (r : Reflex) (h : HostId) (l : LineId) : Bool :=
  decide (r.owner = h) && decide (r.deed.deed.line = some l)

/-! ## Requests -/

/-- A REFLEX_SET payload decoded: the channel and the record it installs; absent when check 1 fails (R123). -/
def reflexOf (h : HostId) (payload : List Byte) : Option (ChannelId × Reflex) :=
  match payload with
  | [channel, target, action, w1, w0, d2, d1, d0, late, notify, tag] => do
    let c ← channelOf channel
    let deed ← reflexDeedOf action target (number2 w1 w0)
    let late ← latePolicyOf late
    let notify ← notifyOf (decide (deed = .mark)) notify
    let tag ← tagOf tag
    if number3 d2 d1 d0 = 0 then none
    else some (c, { owner := h, deed, delay := number3 d2 d1 d0, late, notify, tag })
  | _ => none

/-- Checks 2 to 5 of REFLEX_SET, in order: the status of the first that fails, with the items its reply carries (R123). -/
def State.reflexFails (s : State) (c : ChannelId) (r : Reflex) : Option (Status × List Byte) :=
  let heldBy := match r.deed.deed.line with
    | none => true
    | some l => (s.claim l).holders.get r.owner
  if !(s.channel c).subscribers.get r.owner then some (.notSubscribed, [])
  else if !heldBy then some (.notOwner, [])
  else if s.toggleShared r.deed.deed then some (.notAllowed, [])
  else match s.reflex c with
    | none => none
    | some old => if old.owner = r.owner then none else some (.busy, [HostId.code old.owner])

/-- REFLEX_SET (R123, R124): the reply states whether a reflex was replaced. -/
def reflexSetBlock : Block := fun h payload s =>
  match reflexOf h payload with
  | none => s.refuse .badArg
  | some (c, r) => match s.reflexFails c r with
    | some (st, items) => s.refuse st items
    | none => (s.setReflex c (some r)).accept [flagByte (s.reflex c).isSome]

/-- REFLEX_CLEAR (R125). -/
def reflexClearBlock : Block := fun h payload s =>
  match payload with
  | [channel] =>
    match channelOf channel with
    | none => s.refuse .badArg
    | some c => match s.reflex c with
      | none => s.refuse .noEntry
      | some r => if r.owner = h then (s.setReflex c none).accept [] else s.refuse .notOwner
  | _ => s.refuse .badArg

/-- REFLEX_SET. -/
def execReflexSet (p : HostId) (s : State) : Host.Outcome State Fault Refusal :=
  .next (s.takeRequest p ⟨64, 11, false⟩ reflexSetBlock)

/-- REFLEX_CLEAR. -/
def execReflexClear (p : HostId) (s : State) : Host.Outcome State Fault Refusal :=
  .next (s.takeRequest p ⟨65, 1, false⟩ reflexClearBlock)

end Sys2Proof.Machine
end

