-- ==== Sys2Proof/Machine/SenseUnit.lean ====
section
/-! DEFINITION. The sense unit: samples, edges, captures, the end of a subscription, and the requests on a channel (chapter 5). -/

namespace Sys2Proof.Machine

/-! ## Edges and captures -/

/-- An edge to `level` matches the edge selection (R110). -/
def ChannelRec.qualifies (r : ChannelRec) (level : Level) : Bool :=
  match r.edge with
  | .rising => level
  | .falling => !level
  | .both => true

/-- The direction of an edge to `level` (R103). -/
def dirOf (level : Level) : EdgeDir := if level then .rising else .falling

/-- The channel record after a capture at `stamp`, but for its gate (R113, steps 1 and 2; the counter by R112). -/
def ChannelRec.captured (r : ChannelRec) (stamp : Time) (edge : EdgeDir) : ChannelRec :=
  { r with counter := 0, sequence := r.sequence + 1, last := some ⟨stamp, edge, r.sequence + 1⟩ }

/-- The gate closes its channel (R113, step 5). -/
def State.closeGate (s : State) (c : ChannelId) : State :=
  if (s.channel c).gate then s.setChannel c { s.channel c with state := .gated } else s

/-- A capture of channel `c`, taken as one event (R113). -/
def State.captureOn (s : State) (c : ChannelId) (edge : EdgeDir) : State :=
  let r := (s.channel c).captured s.now edge
  let told := (s.setChannel c r).notifyEach (hostsIn r.subscribers) s.now (.capture c edge r.sequence)
  (told.triggerReflex c).closeGate c

/-- A qualifying edge is counted while the channel is OPEN and the timebase RUNNING (R104, R112). -/
def State.countsEdge (s : State) (c : ChannelId) (level : Level) : Bool :=
  (s.channel c).qualifies level && decide ((s.channel c).state = .opened) && decide (s.tb.mode = .running)

/-- The prescale counter stands at the prescale value: the next counted edge is captured (R112). -/
def ChannelRec.atPrescale (r : ChannelRec) : Bool := decide (r.prescale ≤ r.counter)

/-- An edge taken on channel `c`, whose settled level has just become `level` (R112). -/
def State.takeEdge (s : State) (c : ChannelId) (level : Level) : State :=
  if s.countsEdge c level then
    if (s.channel c).atPrescale then s.captureOn c (dirOf level)
    else s.setChannel c { s.channel c with counter := (s.channel c).counter + 1 }
  else s

/-- The settled level becomes the level of the line, and an edge is taken (R110, R111). -/
def State.settleLevel (s : State) (c : ChannelId) : State :=
  (s.setChannel c { s.channel c with settled := (s.channel c).pin, filterCount := 0 }).takeEdge c (s.channel c).pin

/-- Sense line `c` takes level `level` (R110): with the filter OFF a change is an edge at once; with TICK or REFCLK the samples
that follow see it. -/
def State.driveSense (s : State) (c : ChannelId) (level : Level) : State :=
  let t := s.setChannel c { s.channel c with pin := level }
  if (s.channel c).filter = .off ∧ (s.channel c).settled ≠ level then t.settleLevel c else t

/-! ## Filter samples -/

/-- The next sample of a channel with filter `f` completes an edge (R111). -/
def ChannelRec.completes (r : ChannelRec) (f : Filter) : Bool :=
  decide (r.filter = f) && (r.pin != r.settled) && decide (2 ≤ r.filterCount)

/-- The channels whose next sample by filter `f` completes an edge, in ascending order. -/
def State.completing (s : State) (f : Filter) : List ChannelId := allChannels.filter fun c => (s.channel c).completes f

/-- A sample by filter `f` that completes no edge (R111). -/
def ChannelRec.sample (r : ChannelRec) (f : Filter) : ChannelRec :=
  if r.filter = f ∧ r.completes f = false then
    { r with filterCount := if r.pin = r.settled then 0 else r.filterCount + 1 }
  else r

/-- One sample of every channel with filter `f`, but for those whose sample completes an edge: their edges are events of their
own, taken by `settleLevel`. -/
def State.sampleAll (s : State) (f : Filter) : State := s.mapChannels fun _ r => r.sample f

/-! ## Subscribers -/

/-- The record of a channel whose last subscriber has left (R109). -/
def ChannelRec.abandoned (r : ChannelRec) : ChannelRec := { r with state := .idle, counter := 0, sequence := 0, last := none }

/-- A host taken out of a channel's subscribers (R108, R109, R119). -/
def ChannelRec.without (r : ChannelRec) (h : HostId) : ChannelRec :=
  let left := { r with subscribers := r.subscribers.set h false }
  if noHosts left.subscribers then left.abandoned else left

/-- A host added to a channel's subscribers (R107). -/
def ChannelRec.joined (r : ChannelRec) (h : HostId) : ChannelRec :=
  let more := { r with subscribers := r.subscribers.set h true }
  match r.state with
  | .idle => { more with state := .opened, counter := 0 }
  | _ => more

/-! ## Requests -/

/-- A channel's four configuration items, in the order SENSE_SETUP carries them. -/
def ChannelRec.configBytes (r : ChannelRec) : List Byte := [r.edge.code, r.filter.code, byte r.prescale, flagByte r.gate]

/-- The channel record after an accepted SENSE_SETUP (R106). -/
def ChannelRec.setUp (r : ChannelRec) (edge : EdgeSelection) (filter : Filter) (prescale : Nat) (gate : Bool) : ChannelRec :=
  { r with
    edge, filter, prescale, gate, counter := 0, settled := r.pin, filterCount := 0
    state := match r.state with
      | .gated => if gate then .gated else .opened
      | st => st }

/-- SENSE_SETUP (R105, R106). -/
def senseSetupBlock : Block := fun h payload s =>
  match payload with
  | [channel, edge, filter, prescale, gate] =>
    match channelOf channel, edgeSelectionOf edge, filterOf filter, boolOf gate with
    | some c, some e, some f, some g =>
      let r := s.channel c
      if !noHosts r.subscribers && !onlyHost r.subscribers h then s.refuse .busy [byte (hostCount r.subscribers)]
      else
        let r' := r.setUp e f prescale.toNat g
        (s.setChannel c r').accept [r'.state.code]
    | _, _, _, _ => s.refuse .badArg
  | _ => s.refuse .badArg

/-- SUBSCRIBE (R107). -/
def subscribeBlock : Block := fun h payload s =>
  match payload with
  | [channel] =>
    match channelOf channel with
    | none => s.refuse .badArg
    | some c =>
      if (s.channel c).subscribers.get h then s.refuse .already
      else
        let r := (s.channel c).joined h
        (s.setChannel c r).accept
          ([r.state.code] ++ r.configBytes ++ [byte (hostCount r.subscribers)] ++ bytes2 r.sequence.toNat)
  | _ => s.refuse .badArg

/-- A REARM entry of host `h` on channel `c` (R28). -/
def rearmsFor (h : HostId) (c : ChannelId) (e : Entry) : Bool :=
  decide (e.owner = h) && decide (e.deed.rearms = some c)

/-- UNSUBSCRIBE (R108): the requester leaves, its REARM entries and then its reflex on the channel are removed, and a channel
with no subscriber left becomes IDLE. -/
def unsubscribeBlock : Block := fun h payload s =>
  match payload with
  | [channel] =>
    match channelOf channel with
    | none => s.refuse .badArg
    | some c =>
      if !(s.channel c).subscribers.get h then s.refuse .notSubscribed
      else
        let r := (s.channel c).without h
        let t := (s.setChannel c r).withdrawEntries (rearmsFor h c) .unsubscribed
        (t.removeReflexes (fun d x => decide (d = c) && decide (x.owner = h)) (some .unsubscribed)).accept
          [byte (hostCount r.subscribers)]
  | _ => s.refuse .badArg

/-- SENSE_REARM (R116): the reply carries the state before the rearm. -/
def senseRearmBlock : Block := fun h payload s =>
  match payload with
  | [channel] =>
    match channelOf channel with
    | none => s.refuse .badArg
    | some c =>
      if !(s.channel c).subscribers.get h then s.refuse .notSubscribed
      else (s.rearm c).accept [(s.channel c).state.code]
  | _ => s.refuse .badArg

/-- The last capture as SENSE_STATUS writes it: stamp, edge, sequence (R118). -/
def LastCapture.bytes (r : LastCapture) : List Byte := timeBytes r.stamp ++ [r.edge.code] ++ bytes2 r.sequence.toNat

/-- The items of SENSE_STATUS, in the order of R118; the reflex item is a presence byte and the owner (DEDUCED, log entry 5). -/
def State.senseStatus (s : State) (c : ChannelId) : List Byte :=
  let r := s.channel c
  [r.state.code] ++ r.configBytes ++ [hostSetByte r.subscribers, byte r.counter] ++ bytes2 r.sequence.toNat ++
    optionalItem 8 (r.last.map LastCapture.bytes) ++ [flagByte r.settled, byte r.filterCount] ++
    optionalItem 1 ((s.reflex c).map fun x => [HostId.code x.owner])

/-- SENSE_STATUS (R118). -/
def senseStatusBlock : Block := fun _ payload s =>
  match payload with
  | [channel] =>
    match channelOf channel with
    | none => s.refuse .badArg
    | some c => s.accept (s.senseStatus c)
  | _ => s.refuse .badArg

/-- SENSE_SETUP. -/
def execSenseSetup (p : HostId) (s : State) : Host.Outcome State Fault Refusal :=
  .next (s.takeRequest p ⟨56, 5, false⟩ senseSetupBlock)

/-- SUBSCRIBE. -/
def execSubscribe (p : HostId) (s : State) : Host.Outcome State Fault Refusal :=
  .next (s.takeRequest p ⟨57, 1, false⟩ subscribeBlock)

/-- UNSUBSCRIBE. -/
def execUnsubscribe (p : HostId) (s : State) : Host.Outcome State Fault Refusal :=
  .next (s.takeRequest p ⟨58, 1, false⟩ unsubscribeBlock)

/-- SENSE_REARM. -/
def execSenseRearm (p : HostId) (s : State) : Host.Outcome State Fault Refusal :=
  .next (s.takeRequest p ⟨59, 1, false⟩ senseRearmBlock)

/-- SENSE_STATUS. -/
def execSenseStatus (p : HostId) (s : State) : Host.Outcome State Fault Refusal :=
  .next (s.takeRequest p ⟨60, 1, false⟩ senseStatusBlock)

end Sys2Proof.Machine
end

