-- ==== Sys2Proof/Machine/ClaimTable.lean ====
section
/-! DEFINITION. The claim table: claiming, queueing, releasing, handing on and admitting (chapter 4). -/

namespace Sys2Proof.Machine

/-- A place asks for SHARED (R86). -/
def Place.wantsShared (w : Place) : Bool := decide (w.ask.mode = .shared)

/-- The policy a place asks for (R86). -/
def Ask.policy : Ask → Policy
  | .exclusive => .refuse
  | .shared p => p

/-- The run of SHARED places at the head of a wait list, up to the first EXCLUSIVE place (R93, R95). -/
def sharedRun (waiting : List Place) : List Place := waiting.takeWhile Place.wantsShared

/-- The wait list behind that run. -/
def afterRun (waiting : List Place) : List Place := waiting.dropWhile Place.wantsShared

/-- Hosts added to a set of hosts. -/
def addHosts (q : HostSet) (hs : List HostId) : HostSet := hs.foldl (fun t h => t.set h true) q

/-- Each host of a run of granted places is sent CLAIM_GRANTED, in the order of the places (R94). -/
def State.tellGranted (s : State) (l : LineId) (places : List Place) (mode : ClaimMode) (policy : Policy) : State :=
  s.notifyEach (places.map Place.host) s.now (.claimGranted l mode policy)

/-- A line whose last holder has left is handed on or made FREE (R93). -/
def State.handOn (s : State) (l : LineId) : State :=
  match (s.claim l).waiting with
  | [] => (s.setClaim l .cleared).freeOutput l
  | w :: rest =>
    match w.ask with
    | .exclusive =>
      let c : ClaimRec :=
        { state := .exclusive, holders := (Quad.const false).set w.host true, policy := .refuse, waiting := rest }
      (((s.setClaim l c).grantOutput l w.settings).tellGranted l [w] .exclusive .refuse)
    | .shared policy =>
      let run := sharedRun (w :: rest)
      let c : ClaimRec :=
        { state := .shared, holders := addHosts (Quad.const false) (run.map Place.host), policy,
          waiting := afterRun (w :: rest) }
      ((s.setClaim l c).grantOutput l w.settings).tellGranted l run .shared policy

/-- On a SHARED line, the run of SHARED places at the head of the wait list is admitted (R95). -/
def State.admitRun (s : State) (l : LineId) : State :=
  let c := s.claim l
  match c.state, sharedRun c.waiting with
  | .shared, w :: ws =>
    let run := w :: ws
    (s.setClaim l { c with holders := addHosts c.holders (run.map Place.host), waiting := afterRun c.waiting }).tellGranted l run
      .shared c.policy
  | _, _ => s

/-- A host's place leaves the wait list without being granted (R95). -/
def State.withdrawPlace (s : State) (h : HostId) (l : LineId) : State :=
  (s.setClaim l { s.claim l with waiting := (s.claim l).waiting.filter fun w => decide (w.host ≠ h) }).admitRun l

/-- A host leaves a line's holders (R92, R100): with other members the line stays as it is; with none it is handed on. -/
def State.leaveHolders (s : State) (h : HostId) (l : LineId) : State :=
  let t := s.setClaim l { s.claim l with holders := (s.claim l).holders.set h false }
  if noHosts (t.claim l).holders then t.handOn l else t

/-- A host has a place in a line's wait list (R86). -/
def ClaimRec.awaitedBy (c : ClaimRec) (h : HostId) : Bool := c.waiting.any fun w => decide (w.host = h)

/-- An entry of host `h` acts on line `l` (R26). -/
def actsFor (h : HostId) (l : LineId) (e : Entry) : Bool := decide (e.owner = h) && decide (e.deed.line = some l)

/-- A CLAIM that finds its line FREE is granted at once (R88). -/
def State.grantNow (s : State) (h : HostId) (l : LineId) (ask : Ask) (settings : LineSettings) : State :=
  (s.setClaim l
    { state := match ask with | .exclusive => .exclusive | .shared _ => .shared
      holders := (Quad.const false).set h true, policy := ask.policy, waiting := [] }).grantOutput l settings

/-- A CLAIM payload decoded; absent when check 1 fails (R87). -/
def claimOf (payload : List Byte) : Option (LineId × Ask × Bool × LineSettings) :=
  match payload with
  | [line, mode, wait, idle, ret, safe, policy] => do
    let l ← lineOf line
    let ask ← askOf mode policy
    let wait ← boolOf wait
    let settings ← settingsOf idle ret safe
    some (l, ask, wait, settings)
  | _ => none

/-- The reply to a CLAIM that now holds the line: mode, policy and number of holders (R88, R89). -/
def claimHeldBytes (mode : ClaimMode) (c : ClaimRec) : List Byte := [mode.code, c.policy.code, byte (hostCount c.holders)]

/-- A CLAIM that is neither granted nor joined is queued or refused (R90). -/
def State.queueClaim (s : State) (h : HostId) (l : LineId) (ask : Ask) (wait : Bool) (settings : LineSettings) : Answer :=
  let c := s.claim l
  if wait then
    (⟨s.setClaim l { c with waiting := c.waiting ++ [⟨h, ask, settings⟩] }, .queued, [byte (c.waiting.length + 1)]⟩ : Answer)
  else s.refuse .busy [c.state.code, byte c.waiting.length]

/-- CLAIM (R87 to R90). -/
def claimBlock : Block := fun h payload s =>
  match claimOf payload with
  | none => s.refuse .badArg
  | some (l, ask, wait, settings) =>
    let c := s.claim l
    if c.holders.get h then s.refuse .already [0]
    else if c.awaitedBy h then s.refuse .already [1]
    else
      match c.state, ask, c.waiting with
      | .free, _, _ =>
        let t := s.grantNow h l ask settings
        t.accept (claimHeldBytes ask.mode (t.claim l))
      | .shared, .shared _, [] =>
        let t := s.setClaim l { c with holders := c.holders.set h true }
        t.accept (claimHeldBytes .shared (t.claim l))
      | _, _, _ => s.queueClaim h l ask wait settings

/-- A holding released by its host: its entries and then its reflexes on the line are removed, and the line passes on
(R92, R129). -/
def State.releaseHolding (s : State) (h : HostId) (l : LineId) : State :=
  let out := s.setClaim l { s.claim l with holders := (s.claim l).holders.set h false }
  let cleared := (out.withdrawEntries (actsFor h l) .released).removeReflexes (fun _ r => r.targets h l) (some .released)
  if noHosts (cleared.claim l).holders then cleared.handOn l else cleared

/-- RELEASE (R91): the reply states whether a holding was released (0) or a place withdrawn (1). -/
def releaseBlock : Block := fun h payload s =>
  match payload with
  | [line] =>
    match lineOf line with
    | none => s.refuse .badArg
    | some l =>
      if (s.claim l).holders.get h then (s.releaseHolding h l).accept [0]
      else if (s.claim l).awaitedBy h then (s.withdrawPlace h l).accept [1]
      else s.refuse .notOwner
  | _ => s.refuse .badArg

/-- CLAIM. -/
def execClaim (p : HostId) (s : State) : Host.Outcome State Fault Refusal :=
  .next (s.takeRequest p ⟨40, 7, false⟩ claimBlock)

/-- RELEASE. -/
def execRelease (p : HostId) (s : State) : Host.Outcome State Fault Refusal :=
  .next (s.takeRequest p ⟨41, 1, false⟩ releaseBlock)

/-! ## Session end -/

/-- The claim table's part of a session end on line `l`: the holding, or the place, of the ended host (R100, R101). -/
def State.endClaim (s : State) (h : HostId) (l : LineId) : State :=
  if (s.claim l).holders.get h then s.leaveHolders h l
  else if (s.claim l).awaitedBy h then s.withdrawPlace h l
  else s

end Sys2Proof.Machine
end

