-- ==== Sys2Proof/Machine/TimebaseUnit.lean ====
section
/-! DEFINITION. The timebase: starting, stopping, lengths, sync, the requests that steer it, and the declarations of the
reference monitor (chapter 2). -/

namespace Sys2Proof.Machine

/-! ## Notices -/

/-- A timebase notice goes to the holder and to every watcher, one copy each (R59). -/
def State.tbAddressees (s : State) (extra : Option HostId) : List HostId :=
  allHosts.filter fun h => decide (s.tb.holder = some h) || s.watches h || decide (extra = some h)

/-- Send a timebase notice with a stamp; `extra` is the host whose hold has just ended, addressed as the holder (R59). -/
def State.tellTimebase (s : State) (stamp : Time) (body : NoticeBody) (extra : Option HostId := none) : State :=
  s.notifyEach (s.tbAddressees extra) stamp body

/-- A TB_STATE with the state the timebase now has (R59). -/
def State.tellMode (s : State) (cause : TbCause) (extra : Option HostId := none) : State :=
  s.tellTimebase s.now (.tbState s.tb.mode cause) extra

/-! ## Discard (R44) -/

/-- A staged length or a pending stop exists. -/
def Timebase.hasPlans (t : Timebase) : Bool := t.staged.isSome || t.pendingStop

/-- The discard of a staged length evicts the entries of later frames that do not fit the length in effect (R21, R44). -/
def State.discardEvicts (s : State) (e : Entry) : Bool := s.tb.staged.isSome && s.outOfRange true s.tb.length e

/-- The entries that the discard of a staged length removes leave the list. -/
def State.discardEvict (s : State) : State := s.evict s.discardEvicts .frameLength

/-- The staged length becomes absent and the pending stop is cleared (R44). -/
def State.dropPlans (s : State) : State := s.setTb { s.tb with staged := none, pendingStop := false }

/-- What the end of a hold discards while RUNNING (R36, R44): evictions, then the DISCARD notice, the host whose hold ended
being addressed as the holder (R59). -/
def State.discardOnRelease (s : State) (h : HostId) : State :=
  if s.tb.mode = .running ∧ s.tb.hasPlans then (s.discardEvict.dropPlans).tellMode .discard (some h) else s

/-- The two things that leaving RUNNING by TB_STOP NOW tells hosts before any DISCARD, in no fixed order: the evictions of the
discard and the notice of the state change (R42, R44). -/
inductive StopNews where
  | evictions | stopped
  deriving DecidableEq, Repr

/-- One of the two is sent. The evictions are those of the staged length the timebase had (`planned`). -/
def State.tellStop (planned : State) (s : State) : StopNews → State
  | .evictions => s.evict planned.discardEvicts .frameLength
  | .stopped => s.tellMode .stop

/-- TB_STOP NOW while RUNNING (R42, R44). With nothing to evict no order is open. -/
def State.stopNow (s : State) : State :=
  let t := s.setTb { s.tb with mode := .halted, divider := 0, staged := none, pendingStop := false }
  let news := if s.entries.any s.discardEvicts then [StopNews.evictions, .stopped] else [.stopped]
  let u := t.takeAll news (State.tellStop s)
  if s.tb.hasPlans then u.tellMode .discard else u

/-! ## Wraps -/

/-- What a wrap must still tell and do once the new frame has begun (R33, R43, R53). -/
structure WrapReport where
  newLength : Option Nat
  lost : Bool
  halt : Option TbCause
  deriving DecidableEq, Repr

/-- A wrap ends with a miss: a natural wrap in ALIGN while LOCKED (R53). -/
def Timebase.misses (t : Timebase) (natural : Bool) : Bool :=
  natural && decide (t.syncMode = .align) && decide (t.lock = .locked)

/-- A wrap's third consecutive miss (R53). -/
def Timebase.losesLock (t : Timebase) (natural : Bool) : Bool :=
  t.misses natural && decide (Config.lostAfter ≤ t.missCount + 1)

/-- Why a wrap halts the timebase, if it does (R43). -/
def Timebase.haltCause (t : Timebase) : Option TbCause :=
  if t.pendingStop then some .pendingStop else if t.runLimit = 1 then some .runLimit else none

/-- The timebase record after a wrap, before any halt (R33, R53). -/
def Timebase.wrapped (t : Timebase) (natural : Bool) : Timebase :=
  { t with
    now := ⟨t.now.frame + 1, 0⟩
    length := t.staged.getD t.length
    staged := none
    runLimit := t.runLimit - 1
    prevMissed := t.misses natural
    missCount := if t.misses natural then t.missCount + 1 else t.missCount
    lock := if t.losesLock natural then .lost else t.lock }

/-- What the wrap of a timebase reports (R33, R43, R53). -/
def Timebase.wrapReport (t : Timebase) (natural : Bool) : WrapReport :=
  { newLength := t.staged, lost := t.losesLock natural, halt := t.haltCause }

/-- A wrap that halts the timebase (R43). -/
def State.haltAtWrap (s : State) (cause : TbCause) : State :=
  (s.setTb { s.tb with mode := .halted, divider := 0, pendingStop := false }).tellMode cause

/-- A staged length has taken effect at a wrap (R33 step 2). -/
def State.tellNewLength (s : State) : Option Nat → State
  | none => s
  | some n => s.tellTimebase s.now (.tbFrame n)

/-- The sync state has become LOST (R53). -/
def State.tellLost (s : State) (lost : Bool) : State :=
  if lost then (s.tellTimebase s.now (.syncEvent .lost s.tb.missCount)).alertAll else s

/-- A wrap carries out the pending stop or reaches the run limit, or does neither (R43). -/
def State.haltIf (s : State) : Option TbCause → State
  | none => s
  | some cause => s.haltAtWrap cause

/-- What follows a wrap once the new frame has begun, in the order of R189 and R190: TB_FRAME, SYNC_EVENT LOST, frame-return, the
entries due at phase 0, the halt (R33, R43, R53, R72, R74). -/
def State.afterWrap (s : State) (w : WrapReport) : State :=
  ((((s.tellNewLength w.newLength).tellLost w.lost).frameReturn).fireDue).haltIf w.halt

/-! ## Ticks and REFCLK cycles -/

/-- A tick from this phase is a natural wrap (R32). -/
def Timebase.atLastPhase (t : Timebase) : Bool := decide (t.length ≤ t.now.phase + 1)

/-- The timebase record after a tick, before any halt (R32, R33). -/
def Timebase.ticked (t : Timebase) : Timebase :=
  if t.atLastPhase then t.wrapped true else { t with now := ⟨t.now.frame, t.now.phase + 1⟩ }

/-- The events of one tick or REFCLK cycle that have no order between them (R111, R117, R189): everything the tick itself causes
(or the tick, within a REFCLK cycle), and each edge that a sample completes. -/
inductive TickEvent where
  | main
  | edge (channel : ChannelId)
  deriving DecidableEq, Repr

/-- What a tick causes at the line driver and the schedule once the time has advanced (R32, R72). -/
def State.tickEffects (s : State) (report : Option WrapReport) : State :=
  match report with
  | none => s.countPulses.fireDue
  | some w => s.countPulses.afterWrap w

/-- The report of the wrap that a tick brings, if it brings one. -/
def Timebase.tickReport (t : Timebase) : Option WrapReport := if t.atLastPhase then some (t.wrapReport true) else none

/-- One event of a tick is taken. -/
def State.takeTickEvent (report : Option WrapReport) (s : State) : TickEvent → State
  | .main => s.tickEffects report
  | .edge c => s.settleLevel c

/-- A tick (R31, R32): the time advances, the TICK filter takes one sample of every line, pulses count down, and the entries due
fall due. A sample that completes an edge is taken before or after the rest (R117, R189; log entry 2). -/
def State.tick (s : State) : State :=
  let t := s.setTb s.tb.ticked
  (t.sampleAll .tick).takeAll (.main :: (t.completing .tick).map .edge) (State.takeTickEvent s.tb.tickReport)

/-- This REFCLK cycle completes the divider count (R31). -/
def Timebase.tickDue (t : Timebase) : Bool := decide (t.mode = .running) && decide (t.prescale ≤ t.divider + 1)

/-- The divider after a REFCLK cycle: it counts only in RUNNING, and returns to 0 at a tick (R31). -/
def Timebase.cycled (t : Timebase) : Timebase :=
  { t with
    divider := if t.mode = .running then (if t.tickDue then 0 else t.divider + 1) else t.divider
    monitor := { t.monitor with edgeSeen := true } }

/-- One event of a REFCLK cycle is taken. -/
def State.takeCycleEvent (s : State) : TickEvent → State
  | .main => s.tick
  | .edge c => s.settleLevel c

/-- A REFCLK cycle (R31, R54, R111): the divider counts, the REFCLK filter takes one sample of every line, and the cycle that
completes the divider count produces a tick. A sample that completes an edge is taken before or after that tick (log entry 2). -/
def State.refclkCycle (s : State) : State :=
  let t := s.setTb s.tb.cycled
  (t.sampleAll .refclk).takeAll ((if s.tb.tickDue then [.main] else []) ++ (t.completing .refclk).map .edge)
    State.takeCycleEvent

/-- REFCLK cycles one after another. -/
def State.refclkCycles : Nat → State → State
  | 0, s => s
  | n + 1, s => s.refclkCycle.refclkCycles n

/-- The REFCLK cycles up to and including the one that brings the next tick; outside RUNNING there is none (R31, R34;
DESIGN CHOICE, log entry 6). -/
def State.runTick (s : State) : State :=
  if s.tb.mode = .running then s.refclkCycles (max 1 (s.tb.prescale - s.tb.divider)) else s

/-- REFCLK_CYCLE; while RESET_N is low the part counts nothing (section 0.7). -/
def execRefclkCycle (s : State) : Host.Outcome State Fault Refusal := .next (if s.resetN then s.refclkCycle else s)

/-- TICK. -/
def execTick (s : State) : Host.Outcome State Fault Refusal := .next s.runTick

/-- PULSE_END: the tick that takes the pulse of line `line` to 0 (R71); with no such pulse there is no such event (log entry 3). -/
def execPulseEnd (line : Nat) (s : State) : Host.Outcome State Fault Refusal :=
  .next (if h : line < 12 then
      (if (s.line ⟨line, h⟩).pulse = some 1 ∧ (s.claim ⟨line, h⟩).state ≠ .free then s.runTick else s)
    else s)

/-- NATURAL_WRAP: the tick from the last phase (R33). -/
def execNaturalWrap (s : State) : Host.Outcome State Fault Refusal := .next (if s.tb.atLastPhase then s.runTick else s)

/-- RUN_LIMIT: the natural wrap that takes the run-limit count to 0 and halts the timebase, with cause PENDING_STOP where a stop was
pending too (R43). -/
def execRunLimit (s : State) : Host.Outcome State Fault Refusal :=
  .next (if s.tb.atLastPhase ∧ s.tb.runLimit = 1 then s.runTick else s)

/-- SYNC_LOST: the natural wrap that is the third consecutive miss (R53). -/
def execSyncLost (s : State) : Host.Outcome State Fault Refusal :=
  .next (if s.tb.atLastPhase ∧ s.tb.losesLock true then s.runTick else s)

/-! ## SYNC edges -/

/-- The class of a SYNC edge in ALIGN (R50). -/
inductive SyncClass where
  | acquire | onTime | late | early
  deriving DecidableEq, Repr

/-- The window in use (R50). -/
def Timebase.windowInUse (t : Timebase) : Nat := min t.window (t.length / 4)

/-- Classification of a SYNC edge taken at the current time (R50). -/
def Timebase.classifyEdge (t : Timebase) : SyncClass :=
  if t.lock ≠ .locked then .acquire
  else if t.length - t.windowInUse ≤ t.now.phase then .onTime
  else if t.now.phase < t.windowInUse ∧ t.prevMissed then .late
  else .early

/-- An aligned wrap (R51): the overtaken entries are dealt with before the time leaves the frame; then the wrap is taken. -/
def State.alignedWrap (s : State) : State :=
  let t := s.overtake
  (t.setTb (t.tb.wrapped false)).afterWrap (t.tb.wrapReport false)

/-- The phase set back to 0 in the same frame (R52). -/
def Timebase.setBack (t : Timebase) : Timebase := { t with now := ⟨t.now.frame, 0⟩, missCount := 0, prevMissed := false }

/-- A SYNC edge classified in ALIGN while RUNNING (R50 to R52). -/
def State.takeSyncEdge (s : State) : State :=
  match s.tb.classifyEdge with
  | .acquire =>
    let t := s.setTb { s.tb with lock := .locked, missCount := 0 }
    (t.tellTimebase t.now (.syncEvent .locked 0)).alignedWrap
  | .onTime => (s.setTb { s.tb with missCount := 0 }).alignedWrap
  | .late => s.setTb s.tb.setBack
  | .early => (s.tellTimebase s.now (.syncEvent .early s.tb.missCount)).alignedWrap

/-- The SYNC edge that starts the count (R40). -/
def State.syncStart (s : State) : State :=
  let t := s.setTb { s.tb with mode := .running, divider := 0, lock := match s.tb.syncMode with | .align => .locked | .none => s.tb.lock }
  match s.tb.syncMode with
  | .align => (t.tellTimebase t.now (.syncEvent .locked t.tb.missCount)).tellMode .start
  | .none => t.tellMode .start

/-- A SYNC edge by timebase state and sync mode (R49). -/
def State.syncEdge (s : State) : State :=
  match s.tb.mode, s.tb.syncMode with
  | .awaitingSync, _ => s.syncStart
  | .running, .align => s.takeSyncEdge
  | _, _ => s

/-- SYNC_EDGE. -/
def execSyncEdge (s : State) : Host.Outcome State Fault Refusal := .next s.syncEdge

/-! ## The reference monitor -/

/-- The monitor's counts after one more housekeeping period, before any declaration (R54). -/
def RefMonitor.counted (m : RefMonitor) : RefMonitor :=
  match m.verdict with
  | .present => { m with withoutEdge := if m.edgeSeen then 0 else m.withoutEdge + 1, edgeSeen := false }
  | .absent => { m with withEdge := if m.edgeSeen then m.withEdge + 1 else 0, edgeSeen := false }

/-- The monitor has a declaration to make (R54). -/
def RefMonitor.declares (m : RefMonitor) : Bool :=
  match m.verdict with
  | .present => decide (Config.absentAfter ≤ m.withoutEdge)
  | .absent => decide (Config.presentAfter ≤ m.withEdge)

/-- The monitor counts a housekeeping period, whose note of an edge it then clears (R54). -/
def State.countMonitor (s : State) : State := s.setTb { s.tb with monitor := s.tb.monitor.counted }

/-- The housekeeping period that now ends brings the declaration that leaves monitor state `verdict` (R54). While RESET_N is low
there is none (section 0.7; log entry 17). -/
def State.declaresFrom (s : State) (verdict : RefVerdict) : Bool :=
  s.resetN && decide (s.tb.monitor.verdict = verdict) && s.tb.monitor.counted.declares

/-- The monitor declares ABSENT, at the end of a period it has counted (R54, R55). The counts start from 0: DEDUCED, log
entry 13. -/
def State.declareAbsent (s : State) : State :=
  let planned := s.tb.hasPlans
  let t := s.discardEvict
  let u := t.setTb
    { t.tb with
      mode := .refLost, divider := 0, staged := none, pendingStop := false
      monitor := { t.tb.monitor with verdict := .absent, withoutEdge := 0, withEdge := 0 } }
  let told := u.alertAll.tellMode .refLost
  (if planned then told.tellMode .discard else told).applySafeLevels

/-- The monitor declares PRESENT, at the end of a period it has counted (R54, R56). The counts start from 0: DEDUCED, log
entry 13. -/
def State.declarePresent (s : State) : State :=
  (s.setTb { s.tb with monitor := { s.tb.monitor with verdict := .present, withoutEdge := 0, withEdge := 0 } }).tellMode .refBack

/-- REF_LOST: the end of the fourth consecutive housekeeping period without a REFCLK edge, at which the monitor, PRESENT until
then, declares ABSENT (R54, R55). With fewer periods counted, an edge noted in this one, or the monitor ABSENT there is no such
event (log entries 3 and 7). -/
def execRefLost (s : State) : Host.Outcome State Fault Refusal :=
  .next (if s.declaresFrom .present then s.countMonitor.declareAbsent else s)

/-- REF_BACK: the end of the second consecutive housekeeping period with a REFCLK edge, at which the monitor, ABSENT until then,
declares PRESENT (R54, R56). With fewer periods counted, no edge noted in this one, or the monitor PRESENT there is no such
event (log entries 3 and 7). -/
def execRefBack (s : State) : Host.Outcome State Fault Refusal :=
  .next (if s.declaresFrom .absent then s.countMonitor.declarePresent else s)

/-! ## Requests -/

/-- TB_HOLD (R35). -/
def tbHoldBlock : Block := fun h _ s =>
  match s.tb.holder with
  | none => (s.setTb { s.tb with holder := some h }).accept [s.tb.mode.code]
  | some k => if k = h then s.refuse .already else s.refuse .held [HostId.code k]

/-- TB_RELEASE (R36). -/
def tbReleaseBlock : Block := fun h _ s =>
  if s.tb.holder = some h then ((s.setTb { s.tb with holder := none }).discardOnRelease h).accept [] else s.refuse .notHolder

/-- The fields of TB_START (R38). -/
structure StartFields where
  onSync : Bool
  restart : Bool
  runLimit : Nat
  deriving DecidableEq, Repr

/-- A TB_START that starts the timebase (R39). -/
def State.startTimebase (s : State) (f : StartFields) : State :=
  let t := if f.restart then s.restart else s
  (t.setTb
    { t.tb with
      runLimit := f.runLimit, lock := .searching, missCount := 0, prevMissed := false
      mode := if f.onSync then .awaitingSync else .running
      divider := if f.onSync then t.tb.divider else 0 }).tellTimebase s.now
    (.tbState (if f.onSync then .awaitingSync else .running) .start)

/-- The state checks of TB_START, and its outcome (R38, R39, R41). -/
def State.startOutcome (s : State) (f : StartFields) : Answer :=
  match s.tb.mode with
  | .halted | .refLost => match s.tb.monitor.verdict with
    | .present => (s.startTimebase f).accept []
    | .absent => s.refuse .noRef
  | .awaitingSync => s.refuse .state
  | .running =>
    if s.tb.pendingStop && !f.restart then
      ((s.setTb { s.tb with pendingStop := false, runLimit := f.runLimit }).tellMode .start).accept []
    else s.refuse .state

/-- TB_START (R37, R38). -/
def tbStartBlock : Block := fun h payload s =>
  match payload with
  | [mode, source, r1, r0] =>
    match boolOf mode, boolOf source with
    | some onSync, some restart =>
      if s.tb.holder = some h then s.startOutcome ⟨onSync, restart, number2 r1 r0⟩ else s.refuse .notHolder
    | _, _ => s.refuse .badArg
  | _ => s.refuse .badArg

/-- A TB_STOP that halts a timebase that is not RUNNING (R42). -/
def State.stopIdle (s : State) : State := (s.setTb { s.tb with mode := .halted }).tellMode .stop

/-- The outcome of TB_STOP by state and option (R42). -/
def State.stopOutcome (s : State) (atWrap : Bool) : Answer :=
  match s.tb.mode with
  | .halted => s.refuse .state
  | .awaitingSync | .refLost => s.stopIdle.accept []
  | .running => if atWrap then (s.setTb { s.tb with pendingStop := true }).accept [] else s.stopNow.accept []

/-- TB_STOP (R37, R42). -/
def tbStopBlock : Block := fun h payload s =>
  match payload with
  | [option] =>
    match boolOf option with
    | some atWrap => if s.tb.holder = some h then s.stopOutcome atWrap else s.refuse .notHolder
    | none => s.refuse .badArg
  | _ => s.refuse .badArg

/-- A frame length applied at once (R45). -/
def State.applyLength (s : State) (n : Nat) : State :=
  let t := s.setTb { s.tb with length := n }
  (t.evict (t.outOfRange false n) .frameLength).tellTimebase s.now (.tbFrame n)

/-- A frame length staged (R46). -/
def State.stageLength (s : State) (n : Nat) : State :=
  let t := s.setTb { s.tb with staged := some n }
  t.evict (t.outOfRange true n) .frameLength

/-- TB_SET_FRAME by timebase state (R45, R46); a staging notes whether it superseded a staged length (DEDUCED, log entry 5). -/
def State.setLength (s : State) (n : Nat) : Answer :=
  if s.tb.mode = .running then ⟨s.stageLength n, .staged, [flagByte s.tb.staged.isSome]⟩
  else if n ≤ s.now.phase then s.refuse .phaseRange
  else (s.applyLength n).accept []

/-- TB_SET_FRAME (R37, R45, R46). -/
def tbSetFrameBlock : Block := fun h payload s =>
  match payload with
  | [b2, b1, b0] =>
    if lengthOf b2 b1 b0 < Config.minLength then s.refuse .badArg
    else if s.tb.holder = some h then s.setLength (lengthOf b2 b1 b0)
    else s.refuse .notHolder
  | _ => s.refuse .badArg

/-- TB_SET_SYNC (R37, R48). -/
def tbSetSyncBlock : Block := fun h payload s =>
  match payload with
  | [mode, w2, w1, w0] =>
    match syncModeOf mode with
    | none => s.refuse .badArg
    | some m =>
      if s.tb.length / 4 < number3 w2 w1 w0 then s.refuse .badArg
      else if s.tb.holder = some h then
        (s.setTb
          { s.tb with
            syncMode := m, window := number3 w2 w1 w0, lock := .searching, missCount := 0, prevMissed := false }).accept []
      else s.refuse .notHolder
  | _ => s.refuse .badArg

/-- TB_SET_PRESCALE (R37, R47). -/
def tbSetPrescaleBlock : Block := fun h payload s =>
  match payload with
  | [b] =>
    if s.tb.holder = some h then
      match s.tb.mode with
      | .halted | .refLost => (s.setTb { s.tb with prescale := prescaleOf b }).accept []
      | .awaitingSync | .running => s.refuse .state
    else s.refuse .notHolder
  | _ => s.refuse .badArg

/-- READ_TIME (R57). -/
def readTimeBlock : Block := fun _ _ s => s.accept (timeBytes s.now ++ [s.tb.mode.code] ++ bytes3 s.tb.length)

/-- The items of TB_STATUS (R58, R186). -/
def Timebase.statusBytes (t : Timebase) : List Byte :=
  [t.mode.code] ++ timeBytes t.now ++ bytes3 t.length ++ optionalItem 3 (t.staged.map bytes3) ++
    [byte t.prescale, t.syncMode.code] ++ bytes3 t.window ++ [t.lock.code, byte t.missCount, flagByte t.prevMissed] ++
    bytes2 t.runLimit ++ [flagByte t.pendingStop, hostByte t.holder, t.monitor.verdict.code]

/-- TB_STATUS (R58). -/
def tbStatusBlock : Block := fun _ _ s => s.accept s.tb.statusBytes

/-- TB_HOLD. -/
def execTbHold (p : HostId) (s : State) : Host.Outcome State Fault Refusal :=
  .next (s.takeRequest p ⟨16, 0, false⟩ tbHoldBlock)

/-- TB_RELEASE. -/
def execTbRelease (p : HostId) (s : State) : Host.Outcome State Fault Refusal :=
  .next (s.takeRequest p ⟨17, 0, false⟩ tbReleaseBlock)

/-- TB_START. -/
def execTbStart (p : HostId) (s : State) : Host.Outcome State Fault Refusal :=
  .next (s.takeRequest p ⟨18, 4, false⟩ tbStartBlock)

/-- TB_STOP. -/
def execTbStop (p : HostId) (s : State) : Host.Outcome State Fault Refusal :=
  .next (s.takeRequest p ⟨19, 1, false⟩ tbStopBlock)

/-- TB_SET_FRAME. -/
def execTbSetFrame (p : HostId) (s : State) : Host.Outcome State Fault Refusal :=
  .next (s.takeRequest p ⟨20, 3, false⟩ tbSetFrameBlock)

/-- TB_SET_SYNC. -/
def execTbSetSync (p : HostId) (s : State) : Host.Outcome State Fault Refusal :=
  .next (s.takeRequest p ⟨21, 4, false⟩ tbSetSyncBlock)

/-- TB_SET_PRESCALE. -/
def execTbSetPrescale (p : HostId) (s : State) : Host.Outcome State Fault Refusal :=
  .next (s.takeRequest p ⟨22, 1, false⟩ tbSetPrescaleBlock)

/-- READ_TIME. -/
def execReadTime (p : HostId) (s : State) : Host.Outcome State Fault Refusal :=
  .next (s.takeRequest p ⟨23, 0, true⟩ readTimeBlock)

/-- TB_STATUS. -/
def execTbStatus (p : HostId) (s : State) : Host.Outcome State Fault Refusal :=
  .next (s.takeRequest p ⟨24, 0, true⟩ tbStatusBlock)

/-! ## Sense lines: the rows that need the clock -/

/-- SENSE_EDGE: sense line `channel` takes level `level` (R110). -/
def execSenseEdge (channel : Nat) (level : Level) (s : State) : Host.Outcome State Fault Refusal :=
  .next (if h : channel < 8 then s.driveSense ⟨channel, h⟩ level else s)

/-- The next edge of the channel, to `level`, would be captured (R112, R113). -/
def State.capturesNext (s : State) (c : ChannelId) (level : Level) : Bool :=
  s.countsEdge c level && (s.channel c).atPrescale && ((s.channel c).settled != level)

/-- The event that takes the capturing edge of a channel, by its filter (R110, R111): the change of the line with the filter
OFF; with TICK or REFCLK, the tick or the REFCLK cycle of the third sample. -/
def State.captureEvent (s : State) (c : ChannelId) (level : Level) : State :=
  match (s.channel c).filter with
  | .off => s.driveSense c level
  | .tick => if (s.channel c).pin = level ∧ (s.channel c).completes .tick then s.runTick else s
  | .refclk => if (s.channel c).pin = level ∧ (s.channel c).completes .refclk then s.refclkCycle else s

/-- CAPTURE: the edge of channel `channel` to `level` that completes the prescale count (R112, R113); a channel whose next edge
would not be captured has no such event (log entry 3). -/
def execCapture (channel : Nat) (level : Level) (s : State) : Host.Outcome State Fault Refusal :=
  .next (if h : channel < 8 then
      (if s.capturesNext ⟨channel, h⟩ level then s.captureEvent ⟨channel, h⟩ level else s)
    else s)

end Sys2Proof.Machine
end

