-- ==== Sys2Proof/Machine/SessionTable.lean ====
section
/-! DEFINITION. The session table: opening and ending a session, silence, status and identity; the device reset; and one period of
the housekeeping oscillator (chapter 8, sections 0.3 and 0.7). -/

namespace Sys2Proof.Machine

/-! ## Session end -/

/-- The session record after an end (R160). -/
def SessionRec.ended (r : SessionRec) (cause : EndCause) : SessionRec :=
  { r with isOpen := false, endCause := cause, timer := none, silenceLimit := 0, watch := false }

/-- The sense unit's part of a session end (R119). -/
def State.endSubscriptions (s : State) (h : HostId) : State :=
  s.mapChannels fun _ r => if r.subscribers.get h then r.without h else r

/-- The end of a hold with its holder's session (R60). -/
def State.endHold (s : State) (h : HostId) : State :=
  if s.tb.holder = some h then (s.setTb { s.tb with holder := none }).discardOnRelease h else s

/-- The answers to a session end that may send notices to other hosts, with no order between them (R160). -/
inductive EndAnswer where
  | timebase
  | line (l : LineId)
  deriving DecidableEq, Repr

/-- One such answer is given. -/
def State.giveEndAnswer (h : HostId) (s : State) : EndAnswer → State
  | .timebase => s.endHold h
  | .line l => s.endClaim h l

/-- The end of host `h`'s session discards something of the timebase's (R44, R60). -/
def State.endDiscards (s : State) (h : HostId) : Bool :=
  decide (s.tb.holder = some h) && decide (s.tb.mode = .running) && s.tb.hasPlans

/-- The end of host `h`'s session can move line `l`'s wait list, and so tell other hosts (R93, R95). -/
def State.endMoves (s : State) (h : HostId) (l : LineId) : Bool :=
  ((s.claim l).holders.get h || (s.claim l).awaitedBy h) && !(s.claim l).waiting.isEmpty

/-- The answers to a session end that may tell other hosts something. -/
def State.endAnswers (s : State) (h : HostId) : List EndAnswer :=
  (if s.endDiscards h then [EndAnswer.timebase] else []) ++ (allLines.filter fun l => s.endMoves h l).map EndAnswer.line

/-- The answers that tell no other host anything: their order cannot be seen. -/
def State.endSilently (s : State) (h : HostId) : State :=
  let t := if s.endDiscards h then s else s.endHold h
  (allLines.filter fun l => !s.endMoves h l).foldl (fun u l => u.endClaim h l) t

/-- Everything a host's session leaves behind is removed: its own record's part (R160), the flush of its notices (R149), its
entries (R29), its reflexes (R131) and its subscriptions (R119). -/
def State.endOwn (s : State) (h : HostId) (cause : EndCause) : State :=
  let t := (s.setSession h ((s.session h).ended cause)).setNotice h (s.noticeRec h).flushed
  ((t.removeQuietly fun e => decide (e.owner = h)).removeReflexes (fun _ r => decide (r.owner = h)) none).endSubscriptions h

/-- A session end, taken as one event (R160). The order of the answers that tell other hosts is open (log entry 2). -/
def State.endSession (s : State) (h : HostId) (cause : EndCause) : State :=
  let t := s.endOwn h cause
  (t.endSilently h).takeAll (t.endAnswers h) (State.giveEndAnswer h)

/-! ## Requests -/

/-- The session record after an opening (R154). -/
def SessionRec.opened (r : SessionRec) (limit : Nat) (watch : Bool) : SessionRec :=
  { isOpen := true, number := r.number + 1, silenceLimit := limit, timer := if limit = 0 then none else some ⟨0, 0⟩, watch,
    endCause := .none }

/-- OPEN (R154, R148). -/
def openBlock : Block := fun h payload s =>
  match payload with
  | [limit, watch] =>
    match boolOf watch with
    | none => s.refuse .badArg
    | some w =>
      if (s.session h).isOpen then s.refuse .already [(s.session h).number]
      else
        ((s.setSession h ((s.session h).opened limit.toNat w)).setNotice h .reset).accept
          [(s.session h).number + 1, (s.session h).endCause.code]
  | _ => s.refuse .badArg

/-- CLOSE (R156). -/
def closeBlock : Block := fun h _ s => (s.endSession h .close).accept [(s.session h).number]

/-- PORT_RESET (R157, R179): the session end if one is open, then the port's own part. -/
def portResetBlock : Block := fun h _ s =>
  let t := if (s.session h).isOpen then s.endSession h .portReset else s
  (t.setPort h { t.port h with frameErrors := 0, slot := none, unread := false }).accept [flagByte (s.session h).isOpen]

/-- HOST_STATUS (R162). -/
def hostStatusBlock : Block := fun h _ s =>
  let r := s.session h
  let n := s.noticeRec h
  s.accept
    [flagByte r.isOpen, r.number, r.endCause.code, byte r.silenceLimit, flagByte r.watch, byte n.urgent.length,
      byte n.routine.length, byte n.lostCount, conditionsByte n.conditions, byte (s.port h).frameErrors]

/-- IDENT (R163): part code 412, revision B (66), protocol level 1. -/
def identBlock : Block := fun _ _ s => s.accept (bytes2 412 ++ [66, 1])

/-- OPEN. -/
def execOpenSession (p : HostId) (s : State) : Host.Outcome State Fault Refusal :=
  .next (s.takeRequest p ⟨1, 2, true⟩ openBlock)

/-- CLOSE. -/
def execCloseSession (p : HostId) (s : State) : Host.Outcome State Fault Refusal :=
  .next (s.takeRequest p ⟨2, 0, false⟩ closeBlock)

/-- PORT_RESET. -/
def execPortReset (p : HostId) (s : State) : Host.Outcome State Fault Refusal :=
  .next (s.takeRequest p ⟨3, 0, true⟩ portResetBlock)

/-- HOST_STATUS. -/
def execHostStatus (p : HostId) (s : State) : Host.Outcome State Fault Refusal :=
  .next (s.takeRequest p ⟨4, 0, true⟩ hostStatusBlock)

/-- IDENT. -/
def execIdent (p : HostId) (s : State) : Host.Outcome State Fault Refusal := .next (s.takeRequest p ⟨5, 0, true⟩ identBlock)

/-! ## Silence -/

/-- A silence timer after one more housekeeping period (R158). -/
def SilenceTimer.counted (t : SilenceTimer) : SilenceTimer :=
  if Config.silenceUnit ≤ t.periods + 1 then ⟨t.units + 1, 0⟩ else ⟨t.units, t.periods + 1⟩

/-- A session record after one more housekeeping period, before any expiry (R158). -/
def SessionRec.counted (r : SessionRec) : SessionRec :=
  if r.isOpen then { r with timer := r.timer.map SilenceTimer.counted } else r

/-- The timer has reached its limit (R159). -/
def SessionRec.expired (r : SessionRec) : Bool :=
  r.isOpen && (match r.timer with
    | some t => decide (r.silenceLimit ≤ t.units)
    | none => false)

/-- SILENCE_EXPIRY: the timer of host `h` reaches its limit (R159). The event is that of the housekeeping period that completes the
limit: a timer that has further to go, because a request has restarted it or its time has not come, has no such event, and nor
has a stopped one (R159, R161; log entries 3 and 7). -/
def execSilenceExpiry (h : HostId) (s : State) : Host.Outcome State Fault Refusal :=
  .next (if (s.session h).counted.expired then s.endSession h .silence else s)

/-! ## The housekeeping oscillator -/

/-- The declaration (R54). -/
def State.declare (s : State) : State :=
  match s.tb.monitor.verdict with
  | .present => s.declareAbsent
  | .absent => s.declarePresent

/-- The idle check of a port (R177). -/
def State.stallCheck (s : State) (p : HostId) : State :=
  match (s.port p).transaction with
  | .shifting =>
    if s.stallsNext p then s.abandon p else s.setPort p { s.port p with stall := (s.port p).stall + 1 }
  | _ => s

/-- The events of one housekeeping period that have no order between them (sections 0.5, 8.5). -/
inductive HousekeepingEvent where
  | declaration
  | expiry (h : HostId)
  deriving DecidableEq, Repr

/-- One of them is taken. -/
def State.takeHousekeeping (s : State) : HousekeepingEvent → State
  | .declaration => s.declare
  | .expiry h => s.endSession h .silence

/-- The counts of one housekeeping period: the idle checks, the silence timers, the monitor (R54, R158, R177). -/
def State.countPeriod (s : State) : State :=
  let t := allHosts.foldl State.stallCheck s
  (allHosts.foldl (fun v h => v.setSession h (v.session h).counted) t).countMonitor

/-- What the counts of a period bring. -/
def State.periodEvents (s : State) : List HousekeepingEvent :=
  (if s.tb.monitor.declares then [HousekeepingEvent.declaration] else []) ++
    (allHosts.filter fun h => (s.session h).expired).map HousekeepingEvent.expiry

/-- One period of the housekeeping oscillator: what a step does when no command waits (DESIGN CHOICE, log entry 8). While RESET_N
is low nothing counts (section 0.7; log entry 17). -/
def State.housekeepingPeriod (s : State) : State :=
  if s.resetN then s.countPeriod.takeAll s.countPeriod.periodEvents State.takeHousekeeping else s

/-! ## Device reset -/

/-- The device reset (section 0.7): every block returns to its reset values, and RESET_N stands at `pins.resetN`; the model's own fields
stand. The values that depend on input pins are those of the levels found at the release (R121, R181). -/
def State.deviceReset (s : State) (pins : ResetPins) (senses : BitVec 8) : State :=
  (((State.afterReset pins.selectsLow senses).setResetN pins.resetN).setChoices s.choices).setPending s.pending

/-- DEVICE_RESET: RESET_N is held low, or is released. -/
def execDeviceReset (pins : ResetPins) (senses : BitVec 8) (s : State) : Host.Outcome State Fault Refusal :=
  .next (s.deviceReset pins senses)

end Sys2Proof.Machine
end

