-- ==== Sys2Proof/Machine/Dispatch.lean ====
section
/-! DEFINITION. One arm per command: a direct call of its meaning. -/

namespace Sys2Proof.Machine

def exec (i : Instr) (s : State) : Host.Outcome State Fault Refusal :=
  match i with
  | .chipSelectFalling p => Sys2Proof.Machine.execChipSelectFalling p s
  | .transactionEnd p => Sys2Proof.Machine.execTransactionEnd p s
  | .transactionAbandoned p => Sys2Proof.Machine.execTransactionAbandoned p s
  | .badOpcodeFrame p => Sys2Proof.Machine.execBadOpcodeFrame p s
  | .nop p => Sys2Proof.Machine.execNop p s
  | .openSession p => Sys2Proof.Machine.execOpenSession p s
  | .closeSession p => Sys2Proof.Machine.execCloseSession p s
  | .portReset p => Sys2Proof.Machine.execPortReset p s
  | .hostStatus p => Sys2Proof.Machine.execHostStatus p s
  | .ident p => Sys2Proof.Machine.execIdent p s
  | .readNotices p => Sys2Proof.Machine.execReadNotices p s
  | .setNoticeMaps p => Sys2Proof.Machine.execSetNoticeMaps p s
  | .ackConditions p => Sys2Proof.Machine.execAckConditions p s
  | .tbHold p => Sys2Proof.Machine.execTbHold p s
  | .tbRelease p => Sys2Proof.Machine.execTbRelease p s
  | .tbStart p => Sys2Proof.Machine.execTbStart p s
  | .tbStop p => Sys2Proof.Machine.execTbStop p s
  | .tbSetFrame p => Sys2Proof.Machine.execTbSetFrame p s
  | .tbSetSync p => Sys2Proof.Machine.execTbSetSync p s
  | .tbSetPrescale p => Sys2Proof.Machine.execTbSetPrescale p s
  | .readTime p => Sys2Proof.Machine.execReadTime p s
  | .tbStatus p => Sys2Proof.Machine.execTbStatus p s
  | .schedule p => Sys2Proof.Machine.execSchedule p s
  | .cancel p => Sys2Proof.Machine.execCancel p s
  | .cancelGroup p => Sys2Proof.Machine.execCancelGroup p s
  | .queryEntry p => Sys2Proof.Machine.execQueryEntry p s
  | .scheduleStatus p => Sys2Proof.Machine.execScheduleStatus p s
  | .claim p => Sys2Proof.Machine.execClaim p s
  | .release p => Sys2Proof.Machine.execRelease p s
  | .lineSetup p => Sys2Proof.Machine.execLineSetup p s
  | .outputHold p => Sys2Proof.Machine.execOutputHold p s
  | .outputForce p => Sys2Proof.Machine.execOutputForce p s
  | .outputFollow p => Sys2Proof.Machine.execOutputFollow p s
  | .lineStatus p => Sys2Proof.Machine.execLineStatus p s
  | .senseSetup p => Sys2Proof.Machine.execSenseSetup p s
  | .subscribe p => Sys2Proof.Machine.execSubscribe p s
  | .unsubscribe p => Sys2Proof.Machine.execUnsubscribe p s
  | .senseRearm p => Sys2Proof.Machine.execSenseRearm p s
  | .senseStatus p => Sys2Proof.Machine.execSenseStatus p s
  | .reflexSet p => Sys2Proof.Machine.execReflexSet p s
  | .reflexClear p => Sys2Proof.Machine.execReflexClear p s
  | .silenceExpiry h => Sys2Proof.Machine.execSilenceExpiry h s
  | .tick => Sys2Proof.Machine.execTick s
  | .pulseEnd l => Sys2Proof.Machine.execPulseEnd l s
  | .naturalWrap => Sys2Proof.Machine.execNaturalWrap s
  | .runLimit => Sys2Proof.Machine.execRunLimit s
  | .syncLost => Sys2Proof.Machine.execSyncLost s
  | .syncEdge => Sys2Proof.Machine.execSyncEdge s
  | .refLost => Sys2Proof.Machine.execRefLost s
  | .refBack => Sys2Proof.Machine.execRefBack s
  | .senseEdge c v => Sys2Proof.Machine.execSenseEdge c v s
  | .capture c v => Sys2Proof.Machine.execCapture c v s
  | .deviceReset q b => Sys2Proof.Machine.execDeviceReset q b s
  | .spiClockEdge p e d => Sys2Proof.Machine.execSpiClockEdge p e d s
  | .refclkCycle => Sys2Proof.Machine.execRefclkCycle s

end Sys2Proof.Machine
end

