-- ==== Sys2Proof/Machine/Step.lean ====
section
/-! DEFINITION. One step: the command at the front of the queue, or a housekeeping period when none waits. -/

namespace Sys2Proof.Machine

/-- One step of the machine: the command that has waited longest is taken with the queue's rest; on an empty queue one period of
the housekeeping oscillator passes (log entry 8). -/
def step (s : State) : Host.Outcome State Fault Refusal :=
  match s.pending with
  | [] => .next s.housekeepingPeriod
  | c :: rest => exec c (s.setPending rest)

/-- The state with the command that a table word spells put at the front of its queue, if it spells one. -/
def State.withFetchWord (s : State) (nbits w : Nat) : State :=
  match decodeTableWord nbits w with
  | some c => s.setPending (c :: s.pending)
  | none => s

end Sys2Proof.Machine
end

