-- ==== Sys2Proof/WellFormed.lean ====
section
/-! DEFINITION. Which commands name pins the part has. -/

namespace Sys2Proof

/-- A command is well formed when the drive line or sense channel it names exists: D0 to D11 and S0 to S7 (section 0.4). The
other operands are of types that admit no further value. -/
def Instr.wellFormed : Instr → Bool
  | .pulseEnd line => decide (line < 12)
  | .senseEdge channel _ => decide (channel < 8)
  | .capture channel _ => decide (channel < 8)
  | .chipSelectFalling _ | .transactionEnd _ | .transactionAbandoned _ | .badOpcodeFrame _ | .nop _ | .openSession _ | .closeSession _ | .portReset _
  | .hostStatus _ | .ident _ | .readNotices _ | .setNoticeMaps _ | .ackConditions _ | .tbHold _ | .tbRelease _ | .tbStart _
  | .tbStop _ | .tbSetFrame _ | .tbSetSync _ | .tbSetPrescale _ | .readTime _ | .tbStatus _ | .schedule _ | .cancel _
  | .cancelGroup _ | .queryEntry _ | .scheduleStatus _ | .claim _ | .release _ | .lineSetup _ | .outputHold _ | .outputForce _
  | .outputFollow _ | .lineStatus _ | .senseSetup _ | .subscribe _ | .unsubscribe _ | .senseRearm _ | .senseStatus _ | .reflexSet _
  | .reflexClear _ | .silenceExpiry _ | .tick | .naturalWrap | .runLimit | .syncLost | .syncEdge | .refLost
  | .refBack | .deviceReset _ _ | .spiClockEdge _ _ _ | .refclkCycle => true

end Sys2Proof
end

