-- ==== Sys2Proof/Safety.lean ====
section
/-! DEFINITION. What the manual promises of every state the part reaches: the statements its rules make of the whole record of a
block, each kept by every event. -/

namespace Sys2Proof.Safety

open Sys2Proof.Machine

/-- The timebase record stays in its ranges (section 2.1, R31, R32): the phase below the length in effect, the divider below the
prescale and at 0 outside RUNNING, the lengths and the miss count within theirs. -/
def TimebaseInRange (s : State) : Prop :=
  s.tb.now.phase < s.tb.length ∧ (Config.minLength ≤ s.tb.length ∧ s.tb.length ≤ Config.maxLength) ∧
    (∀ n ∈ s.tb.staged, Config.minLength ≤ n ∧ n ≤ Config.maxLength) ∧
    (1 ≤ s.tb.prescale ∧ s.tb.prescale ≤ 256) ∧ s.tb.divider < s.tb.prescale ∧
    (s.tb.mode ≠ .running → s.tb.divider = 0) ∧ s.tb.missCount ≤ Config.lostAfter ∧ s.tb.runLimit ≤ 65535

/-- The sync record behind a miss (R39, R53): fewer than three misses until the lock is LOST, and SEARCHING while the timebase waits for
the edge that starts it. -/
def MissesBelowLoss (s : State) : Prop :=
  (s.tb.lock ≠ .lost → s.tb.missCount < Config.lostAfter) ∧ (s.tb.mode = .awaitingSync → s.tb.lock = .searching)

/-- The holder's session is open, and a staged length or a pending stop exists only while RUNNING and held (R44). -/
def PlansAreHeld (s : State) : Prop :=
  (∀ h, s.tb.holder = some h → (s.session h).isOpen = true) ∧
    (s.tb.hasPlans = true → s.tb.mode = .running ∧ s.tb.holder.isSome = true)

/-- The timebase counts, or waits to count, only while the monitor state is PRESENT (R38, R55). -/
def RunsOnReference (s : State) : Prop :=
  s.tb.mode = .running ∨ s.tb.mode = .awaitingSync → s.tb.monitor.verdict = .present

/-- A host's attention output is asserted exactly when its session is open and its queue holds a notice whose kind is in its
attention mask or one of its condition flags is set (R146). -/
def AttentionSettled (s : State) : Prop :=
  ∀ h, (s.noticeRec h).attention = (s.noticeRec h).wantsAttention (s.session h).isOpen

/-- Each notice queue holds at most 32 notices (R133). -/
def QueuesInRoom (s : State) : Prop := ∀ h, (s.noticeRec h).held.length ≤ Config.queueCapacity

/-- The lost counts and the frame error counts saturate at 255 (section 0.4). -/
def CountsSaturate (s : State) : Prop :=
  ∀ h, (s.noticeRec h).lostCount ≤ Config.saturation ∧ (s.port h).frameErrors ≤ Config.saturation

/-- A closed session has no timer, no silence limit and no watch flag, and its host an empty queue and no condition set; an open
session has no end cause, and its timer runs exactly when its limit is above 0 (R149, R152, R160). -/
def SessionsConsistent (s : State) : Prop :=
  ∀ h,
    ((s.session h).isOpen = false →
      (s.session h).timer = none ∧ (s.session h).silenceLimit = 0 ∧ (s.session h).watch = false ∧ (s.noticeRec h).held = [] ∧
        (s.noticeRec h).conditions.any = false ∧ (s.noticeRec h).lostCount = 0) ∧
    ((s.session h).isOpen = true →
      (s.session h).endCause = .none ∧ ((s.session h).timer.isSome = true ↔ 0 < (s.session h).silenceLimit))

/-- A FREE line has no holders, an empty wait list and policy REFUSE; an EXCLUSIVE line exactly one holder and policy REFUSE; a
SHARED line one to four members (R85). -/
def ClaimsConsistent (s : State) : Prop :=
  ∀ l : LineId,
    ((s.claim l).state = .free →
      hostCount (s.claim l).holders = 0 ∧ (s.claim l).waiting = [] ∧ (s.claim l).policy = .refuse) ∧
    ((s.claim l).state = .exclusive → hostCount (s.claim l).holders = 1 ∧ (s.claim l).policy = .refuse) ∧
    ((s.claim l).state = .shared → 1 ≤ hostCount (s.claim l).holders)

/-- No host stands more than once in a wait list, nor both among a line's holders and in its wait list; the wait list of a SHARED
line is empty or headed by an EXCLUSIVE place (R86). -/
def WaitListsConsistent (s : State) : Prop :=
  ∀ l : LineId,
    ((s.claim l).waiting.map Place.host).Nodup ∧
    (∀ w ∈ (s.claim l).waiting, (s.claim l).holders.get w.host = false) ∧
    ((s.claim l).state = .shared → ∀ w ∈ (s.claim l).waiting.head?, w.ask.mode = .exclusive)

/-- A FREE line's output record is that of R82: DRIVEN, no pulse, level 0, settings cleared (R63, R82). -/
def FreeLinesCleared (s : State) : Prop := ∀ l : LineId, (s.claim l).state = .free → s.line l = .cleared

/-- A channel is IDLE exactly when it has no subscribers, has then no reflex, and is GATED only while its gate is on (R104). -/
def ChannelsConsistent (s : State) : Prop :=
  ∀ c : ChannelId,
    ((s.channel c).state = .idle ↔ noHosts (s.channel c).subscribers = true) ∧
    (noHosts (s.channel c).subscribers = true → s.reflex c = none) ∧
    ((s.channel c).state = .gated → (s.channel c).gate = true)

/-- The prescale counter and the filter count of a channel stay in their ranges (R103). -/
def ChannelCountsInRange (s : State) : Prop :=
  ∀ c : ChannelId, (s.channel c).counter ≤ (s.channel c).prescale ∧ (s.channel c).filterCount ≤ 2

/-- A reflex's owner subscribes to its channel and, unless it is a MARK, holds its line, which is EXCLUSIVE for a TOGGLE
(R122, R128). -/
def ReflexesOwned (s : State) : Prop :=
  ∀ c : ChannelId, ∀ r ∈ s.reflex c,
    (s.channel c).subscribers.get r.owner = true ∧
    (∀ l ∈ r.deed.deed.line, (s.claim l).holders.get r.owner = true) ∧ s.toggleShared r.deed.deed = false

/-- Each slot is occupied by at most one entry (R2, R4), the schedule holds at most 96 entries, and at most 32 of one owner
(R3). -/
def ScheduleInRoom (s : State) : Prop :=
  (s.entries.map fun e => e.handle.slot).Nodup ∧ s.total ≤ Config.capacity ∧ ∀ h, s.ownCount h ≤ Config.quota

/-- An entry's handle carries its slot's present use count (R2). -/
def HandlesCurrent (s : State) : Prop := ∀ e ∈ s.entries, s.uses[e.handle.slot] = e.handle.use

/-- Every entry is due later than now, at most 4095 frames ahead, at a phase below the governing length of its due frame, and the
list stands in due-time order (R4, R11). -/
def ScheduleDueLater (s : State) : Prop :=
  (∀ e ∈ s.entries,
    s.leadIn e ≤ Config.horizon ∧ (s.leadIn e = 0 → s.now.phase < e.due.phase) ∧ e.due.phase < s.tb.governing (s.leadIn e)) ∧
    s.entries.Pairwise fun x y => earlier s.now.frame y.due x.due = false

/-- An entry on a drive line is owned by a holder of the line, a REARM by a subscriber of its channel (R7); no TOGGLE stands on a
SHARED line (R8). -/
def EntriesOwned (s : State) : Prop :=
  ∀ e ∈ s.entries,
    (∀ l ∈ e.deed.line, (s.claim l).holders.get e.owner = true) ∧
    (∀ c ∈ e.deed.rearms, (s.channel c).subscribers.get e.owner = true) ∧ s.toggleShared e.deed = false

/-- No two entries on a SHARED line with policy REFUSE have the same due time (R13). -/
def NoCollisions (s : State) : Prop :=
  s.entries.Pairwise fun x y =>
    ∀ l : LineId, x.deed.line = some l → y.deed.line = some l → (s.claim l).refusing = true → x.due ≠ y.due

/-- A recurring entry's period is 1 to 255 and its remaining count at most 65535 (R1). -/
def RecurrencesInRange (s : State) : Prop :=
  ∀ e ∈ s.entries, ∀ r ∈ e.recurrence, (1 ≤ r.period ∧ r.period ≤ 255) ∧ r.remaining ≤ 65535

/-- A host whose session is closed owns no entry or reflex, holds and waits for no line, subscribes to no channel and does not hold
the timebase (R101, R119, R149). -/
def ClosedHoldsNothing (s : State) : Prop :=
  ∀ h, (s.session h).isOpen = false →
    s.ownCount h = 0 ∧
    (∀ c : ChannelId, (s.channel c).subscribers.get h = false ∧ ∀ r ∈ s.reflex c, r.owner ≠ h) ∧
    (∀ l : LineId, (s.claim l).holders.get h = false ∧ (s.claim l).awaitedBy h = false) ∧
    s.tb.holder ≠ some h

/-- An unread flag is set only over a reply, and a port that is not SHIFTING has nothing half shifted in but what R165 lets stand:
the stall count never passes 64, and fewer than eight bits wait for their byte (R165, R166, R177). -/
def PortsConsistent (s : State) : Prop :=
  ∀ p, ((s.port p).unread = true → (s.port p).slot.isSome = true) ∧ (s.port p).stall ≤ Config.stallLimit ∧
    (s.port p).bits.length < 8 ∧
    ∀ r ∈ (s.port p).slot, r.payload.length ≤ Config.maxPayload

/-- While RESET_N is low the part stays at its reset values: the timebase HALTED at frame 0, phase 0, no entry, every line FREE, every
channel IDLE, no reflex, every session CLOSED with nothing held for its host, and no port SHIFTING (section 0.7; R30, R61, R84,
R102, R121, R132, R150, R164, R181). -/
def ResetIsHeld (s : State) : Prop :=
  s.resetN = false →
    s.tb = .reset ∧ s.entries = [] ∧ (∀ l : LineId, s.line l = .cleared ∧ s.claim l = .cleared) ∧
      (∀ c : ChannelId, (s.channel c).state = .idle ∧ s.reflex c = none) ∧
      ∀ h, s.session h = .reset ∧ s.noticeRec h = .reset ∧ (s.port h).transaction ≠ .shifting

/-- A run is safe when every step answers a next state: the part never stops. -/
def NeverStops (s : State) : Prop := ∃ t, step s = .next t

/-! ## The words of the statements about commands -/

/-- The complete request frame with a code, a tag and a payload, its CRC computed over the bytes before it (R182, R183). -/
def requestFrame (code : Nat) (tag : Byte) (payload : List Byte) : RequestFrame :=
  { opcode := byte code, tag, payload, crc := crc8 (byte code :: tag :: byte payload.length :: payload) }

/-- The bytes of that frame, in the order they are shifted in (R182). -/
def requestBytes (code : Nat) (tag : Byte) (payload : List Byte) : List Byte :=
  byte code :: tag :: byte payload.length ::
    (payload ++ [crc8 (byte code :: tag :: byte payload.length :: payload)])

/-- Port `p` is SHIFTING and has shifted in that request frame, with any number of fill bytes behind it (R166, R170). -/
def HoldsRequest (s : State) (p : HostId) (code : Nat) (tag : Byte) (payload : List Byte) : Prop :=
  (s.port p).transaction = .shifting ∧
    ∃ padding, (s.port p).assembly = requestBytes code tag payload ++ List.replicate padding Config.fill

/-- Host `h` has an open session. -/
def Open (s : State) (h : HostId) : Prop := (s.session h).isOpen = true

/-- The transaction of port `p` is over, and the read-out is settled: the slot's reply has been read once its whole frame has been
shifted out (R168 step 1, R169). -/
def transactionOver (s : State) (p : HostId) : State :=
  s.setPort p
    { s.port p with
      transaction := .idle
      unread := (s.port p).unread && decide ((s.port p).bytesOut < (s.port p).outgoing.length) }

/-- The state in which a well-formed frame of port `p` is answered: its transaction over, and a running silence timer of its host
restarted (R158, R168). -/
def arrived (s : State) (p : HostId) : State :=
  (transactionOver s p).setSession p
    (if (s.session p).isOpen = true ∧ 0 < (s.session p).silenceLimit then { s.session p with timer := some ⟨0, 0⟩ }
     else s.session p)

/-- The nine records of the part that no port keeps are as they were, but for the sessions and the notices. -/
def SameBlocks (s t : State) : Prop :=
  t.tb = s.tb ∧ t.entries = s.entries ∧ t.uses = s.uses ∧ t.lines = s.lines ∧ t.claims = s.claims ∧
    t.channels = s.channels ∧ t.reflexes = s.reflexes

/-- Every host but `h` keeps its port, its session and its notices. -/
def OthersSame (s t : State) (h : HostId) : Prop :=
  ∀ k, k ≠ h → t.port k = s.port k ∧ t.session k = s.session k ∧ t.noticeRec k = s.noticeRec k

/-- The reply in port `p`'s slot answers the frame with tag `tag` (R174): its status, its tag and its payload, unread. -/
def Answers (t : State) (p : HostId) (tag : Byte) (status : Status) (payload : List Byte) : Prop :=
  (t.port p).unread = true ∧
    ∃ r ∈ (t.port p).slot, r.status = status ∧ r.tag = tag ∧ r.payload = payload ∧
      r.noticesHeld = !(t.noticeRec p).held.isEmpty ∧ r.attention = (t.noticeRec p).attention

/-- A request is refused with a status and no items: nothing changes but the reply, the transaction and a running silence timer
(R5, R173). -/
def Refuses (c : Instr) (s : State) (p : HostId) (tag : Byte) (status : Status) : Prop :=
  exec c s = .next ((arrived s p).placeReply p tag status [])

/-- Host `h` owns no entry and no reflex, subscribes to no channel, holds and waits for no line and does not hold the timebase. -/
def HoldsNothing (t : State) (h : HostId) : Prop :=
  (∀ e ∈ t.entries, e.owner ≠ h) ∧
    (∀ c : ChannelId, (t.channel c).subscribers.get h = false ∧ ∀ r ∈ t.reflex c, r.owner ≠ h) ∧
    (∀ l : LineId, (t.claim l).holders.get h = false ∧ ∀ w ∈ (t.claim l).waiting, w.host ≠ h) ∧
    t.tb.holder ≠ some h

/-- The use count of a slot rises by 1 exactly when the entry that occupied it has left the list (R2). -/
def SlotsFollow (s t : State) : Prop :=
  ∀ i : SlotId, t.uses[i] =
    if (∃ e ∈ s.entries, e.handle.slot = i) ∧ (∀ e ∈ t.entries, e.handle.slot ≠ i) then s.uses[i] + 1 else s.uses[i]

/-- What a request of port `p` leaves alone, whatever it does: the other ports, the sessions but for a restarted silence timer, its
own port but for the end of the transaction and the reply, and the queue. -/
def Elsewhere (s t : State) (p : HostId) : Prop :=
  t.sessions = (arrived s p).sessions ∧ (∀ k, k ≠ p → t.port k = s.port k) ∧
    { t.port p with slot := none, unread := false } = { s.port p with transaction := .idle, slot := none, unread := false } ∧
    t.pending = s.pending

/-- Host `h`, if its session is open, has been sent `n` notices (R137). -/
def Sent (s t : State) (h : HostId) (n : Nat) : Prop :=
  (t.noticeRec h).nextNumber = if (s.session h).isOpen then (s.noticeRec h).nextNumber + BitVec.ofNat 8 n else (s.noticeRec h).nextNumber

/-- Host `h` has been sent the notices `news`, each a stamp and a body, in that order, and no other: its record is what their arrivals
make of the record before, one after another (R136 to R140). -/
def Receives (s t : State) (h : HostId) (news : List (Time × NoticeBody)) : Prop :=
  t.noticeRec h = (news.foldl (fun u n => u.notifyAt h n.1 n.2) s).noticeRec h

/-- What host `h` is sent when the entries that `goes` names leave the list now: one notice for each of them it owns, in list order
(R21, R22, R26, R28). -/
def removalNews (s : State) (h : HostId) (goes : Entry → Bool) (body : Handle → NoticeBody) : List (Time × NoticeBody) :=
  (s.entries.filter fun e => decide (e.owner = h) && goes e).map fun e => (s.tb.now, body e.handle)

/-- What host `h` is sent when those of its reflexes that `goes` names are removed now: one notice for each, in ascending order of
channel (R129, R130). -/
def reflexNews (s : State) (h : HostId) (goes : ChannelId → Reflex → Bool) (reason : RemovalReason) : List (Time × NoticeBody) :=
  ((List.finRange 8).filter fun c => match s.reflex c with
    | some r => decide (r.owner = h) && goes c r
    | none => false).map fun c => (s.tb.now, .reflexRemoved c reason)

/-- What host `h` is sent of a timebase notice: one copy if it is the holder or a watcher (R59). -/
def timebaseNews (s : State) (h : HostId) (stamp : Time) (body : NoticeBody) : List (Time × NoticeBody) :=
  if s.tb.holder = some h ∨ s.watches h = true then [(stamp, body)] else []

/-- A staged length or a pending stop exists (R44). -/
abbrev Planned (s : State) : Prop := s.tb.staged.isSome = true ∨ s.tb.pendingStop = true

/-- What host `h` is sent of a wrap at which no entry falls due, in this order (R33, R43, R53): TB_FRAME for a staged length that takes
effect, what the sync state's change tells, and TB_STATE with the cause of a halt, all stamped with phase 0 of the new frame. -/
def wrapNews (s : State) (h : HostId) (sync : List NoticeBody) : List (Time × NoticeBody) :=
  ((match s.tb.staged with
      | none => []
      | some n => [NoticeBody.tbFrame n]) ++ sync ++
    (if s.tb.pendingStop then [NoticeBody.tbState .halted .pendingStop]
     else if s.tb.runLimit = 1 then [NoticeBody.tbState .halted .runLimit]
     else [])).flatMap (timebaseNews s h ⟨s.tb.now.frame + 1, 0⟩)

/-- A discard evicts entry `e`: it is due in a later frame, and does not fit the length in effect, which governs that frame once the
staged length is gone (R21, R44). -/
def lapses (s : State) (e : Entry) : Bool :=
  s.tb.staged.isSome && decide (0 < s.leadIn e) && decide (s.tb.length ≤ e.due.phase)

/-- The SHARED places at the head of a wait list, up to the first EXCLUSIVE one (R93, R95). -/
def headRun (waiting : List Place) : List Place := waiting.takeWhile fun w => decide (w.ask.mode = .shared)

/-- What host `k` is sent when line `l` is handed on to the head of a wait list now: CLAIM_GRANTED, if its place is among those
granted (R93, R94). -/
def handOverNews (s : State) (l : LineId) (waiting : List Place) (k : HostId) : List (Time × NoticeBody) :=
  match waiting with
  | [] => []
  | w :: rest =>
    match w.ask with
    | .exclusive => if w.host = k then [(s.tb.now, .claimGranted l .exclusive .refuse)] else []
    | .shared policy =>
      ((w :: headRun rest).filter fun x => decide (x.host = k)).map fun _ => (s.tb.now, .claimGranted l .shared policy)

/-- What host `k` is sent when the run of SHARED places at the head of a wait list is admitted to SHARED line `l` now: CLAIM_GRANTED
with the line's policy, if its place is in the run (R94, R95). -/
def admissionNews (s : State) (l : LineId) (waiting : List Place) (k : HostId) : List (Time × NoticeBody) :=
  ((headRun waiting).filter fun x => decide (x.host = k)).map fun _ => (s.tb.now, .claimGranted l .shared (s.claim l).policy)

/-- What host `k` is sent when host `h` leaves line `l`, as its last holder or from its wait list (R92 to R95, R100). -/
def leavingNews (s : State) (h : HostId) (l : LineId) (k : HostId) : List (Time × NoticeBody) :=
  if (s.claim l).holders.get h then
    (if ∃ j ∈ allHosts, j ≠ h ∧ (s.claim l).holders.get j = true then [] else handOverNews s l (s.claim l).waiting k)
  else if (s.claim l).state = .shared ∧ ∃ w ∈ (s.claim l).waiting, w.host = h then
    admissionNews s l ((s.claim l).waiting.filter fun w => decide (w.host ≠ h)) k
  else []

/-- The completed edge of a filtered channel `c`, to the level of its line, is taken at time `stamp` (R110 to R113): the level is
settled, and the edge ignored, counted, or captured, which is the event of CAPTURE. -/
def EdgeSettled (s t : State) (c : ChannelId) (stamp : Time) : Prop :=
  (((s.channel c).state ≠ .opened ∨ s.tb.mode ≠ .running ∨
      (s.channel c).edge = (if (s.channel c).pin then .falling else .rising)) →
    t.channel c = { s.channel c with settled := (s.channel c).pin, filterCount := 0 }) ∧
  ((s.channel c).state = .opened → s.tb.mode = .running →
    (s.channel c).edge ≠ (if (s.channel c).pin then .falling else .rising) →
      ((s.channel c).counter < (s.channel c).prescale →
        t.channel c =
          { s.channel c with settled := (s.channel c).pin, filterCount := 0, counter := (s.channel c).counter + 1 }) ∧
      ((s.channel c).counter = (s.channel c).prescale →
        exec (.capture c.val (s.channel c).pin) s = .next t ∧
          t.channel c =
            { s.channel c with
              settled := (s.channel c).pin, filterCount := 0, counter := 0
              sequence := (s.channel c).sequence + 1
              last := some ⟨stamp, if (s.channel c).pin then .rising else .falling, (s.channel c).sequence + 1⟩
              state := if (s.channel c).gate then .gated else .opened }))

/-- What the completed edge of a filtered channel `c` without a reflex tells at time `stamp` (R113, R114): every subscriber is sent
CAPTURE where it is captured, and nobody anything where it is not. -/
def EdgeTold (s t : State) (c : ChannelId) (stamp : Time) : Prop :=
  ∀ h, Receives s t h
    (if (s.channel c).state = .opened ∧ s.tb.mode = .running ∧
        (s.channel c).edge ≠ (if (s.channel c).pin then .falling else .rising) ∧
        (s.channel c).prescale ≤ (s.channel c).counter ∧ (s.channel c).subscribers.get h = true then
      [(stamp, .capture c (if (s.channel c).pin then .rising else .falling) ((s.channel c).sequence + 1))]
    else [])

/-- What entry `e`'s owner is told when it fires (R16, R17): with its notify option no, nothing; with yes and room in an open session's
queue, a DONE that carries the level of its line (0 for REARM and MARK), whether it fired late, whether it has left the list and
its remaining count. -/
def TellsDone (s : State) (late : Bool) (e : Entry) (final : Bool) (remaining : Nat) : Prop :=
  (e.notify = false → (s.conclude late e).notices = s.notices) ∧
    (e.notify = true → Open s e.owner → (s.noticeRec e.owner).held.length < Config.queueCapacity →
      ∃ n ∈ ((s.conclude late e).noticeRec e.owner).held,
        n.stamp = s.tb.now ∧
          n.body =
            .fired e.handle e.deed.action e.deed.target
              (match e.deed.line with
                | some l => (s.line l).level
                | none => false)
              late final remaining e.origin)

/-- What entry `e`'s owner is told when it fires and its re-insertion fails for a reason (R16, R19): with its notify option yes a DONE
with the final flag, and then, whatever the option, an EVICTED; the next numbers are theirs in that order. -/
def TellsEvicted (s : State) (late : Bool) (e : Entry) (remaining : Nat) (reason : EvictReason) : Prop :=
  Sent s (s.conclude late e) e.owner (if e.notify then 2 else 1) ∧
    (Open s e.owner → (s.noticeRec e.owner).held.length + 1 < Config.queueCapacity →
      (e.notify = true →
        ∃ n ∈ ((s.conclude late e).noticeRec e.owner).held,
          n.number = (s.noticeRec e.owner).nextNumber ∧ n.stamp = s.tb.now ∧
            n.body =
              .fired e.handle e.deed.action e.deed.target
                (match e.deed.line with
                  | some l => (s.line l).level
                  | none => false)
                late true remaining e.origin) ∧
      ∃ n ∈ ((s.conclude late e).noticeRec e.owner).held,
        n.number = (if e.notify then (s.noticeRec e.owner).nextNumber + 1 else (s.noticeRec e.owner).nextNumber) ∧
          n.stamp = s.tb.now ∧ n.body = .evicted e.handle reason)

/-- The output record of a line whose firing group is `group` (R64): with an empty group it stands. -/
def grouped (r : OutputRec) (c : ClaimRec) (group : List LineAction) : OutputRec :=
  if group = [] then r else r.applyGroup c group

/-- One tick of a pulse (R71): the last one returns the line to its idle level. -/
def pulseTicked (r : OutputRec) : OutputRec :=
  match r.pulse with
  | none => r
  | some n => if n ≤ 1 then { r with pulse := none, level := r.settings.idle } else { r with pulse := some (n - 1) }

/-- A line at a wrap (R74): with frame-return on it goes to its idle level and its pulse ends. -/
def returned (r : OutputRec) : OutputRec :=
  if r.settings.frameReturn then { r with level := r.settings.idle, pulse := none } else r

/-- The entries due at a time, in list order (R15). -/
def dueAt (s : State) (t : Time) : List Entry := s.entries.filter fun e => decide (e.due = t)

/-- The refused offer of a reflex on channel `c` (R114, R128): the schedule stands, every open subscriber is sent its CAPTURE, and the
reflex's owner a REFLEX_LOST with the status besides, behind its CAPTURE. -/
def ReflexLost (s t : State) (c : ChannelId) (owner : HostId) (status : Status) : Prop :=
  t.entries = s.entries ∧ t.uses = s.uses ∧
    (∀ h, Sent s t h ((if (s.channel c).subscribers.get h then 1 else 0) + if h = owner then 1 else 0)) ∧
    (Open s owner → (s.channel c).subscribers.get owner = true →
      (s.noticeRec owner).held.length + 1 < Config.queueCapacity →
        ∃ n ∈ (t.noticeRec owner).held,
          n.number = (s.noticeRec owner).nextNumber + 1 ∧ n.stamp = s.tb.now ∧ n.body = .reflexLost c status)

/-- Host `h` has left the holders of line `l` (R92, R93, R100): with other holders the line stands; with none it is handed on, or made
FREE. -/
def HoldingLeft (s t : State) (h : HostId) (l : LineId) : Prop :=
  ((∃ k, k ≠ h ∧ (s.claim l).holders.get k = true) →
    t.claim l = { s.claim l with holders := (s.claim l).holders.set h false } ∧ t.line l = s.line l) ∧
  ((∀ k, k ≠ h → (s.claim l).holders.get k = false) →
    t.claim l = (s.handOn l).claim l ∧ t.line l = (s.handOn l).line l)

/-- Host `h` has withdrawn its place in line `l`'s wait list (R95): the other places stand, in their order; the run of SHARED places
that this brings to the head of a SHARED line's wait list joins the members; policy and output record stand. -/
def PlaceWithdrawn (s t : State) (h : HostId) (l : LineId) : Prop :=
  t.line l = s.line l ∧
    ((s.claim l).state ≠ .shared →
      t.claim l = { s.claim l with waiting := (s.claim l).waiting.filter fun w => decide (w.host ≠ h) }) ∧
    ∀ run behind, (s.claim l).state = .shared →
      (s.claim l).waiting.filter (fun w => decide (w.host ≠ h)) = run ++ behind → (∀ x ∈ run, x.ask ≠ .exclusive) →
      (∀ x ∈ behind.head?, x.ask = .exclusive) →
        (t.claim l).state = .shared ∧ (t.claim l).policy = (s.claim l).policy ∧ (t.claim l).waiting = behind ∧
          ∀ k, (t.claim l).holders.get k = true ↔ (s.claim l).holders.get k = true ∨ ∃ x ∈ run, x.host = k

/-- The timebase record after host `h`'s session has ended (R44, R60): the holder's hold ends, and with it, while RUNNING, a staged
length and a pending stop; every other item stands. -/
def tbWithout (s : State) (h : HostId) : Timebase :=
  if s.tb.holder = some h then
    (if s.tb.mode = .running then { s.tb with holder := none, staged := none, pendingStop := false }
     else { s.tb with holder := none })
  else s.tb

/-- The end of host `h`'s session discards a staged length that entry `e` then does not fit (R21, R44, R60). -/
def discardedWith (s : State) (h : HostId) (e : Entry) : Bool :=
  decide (s.tb.holder = some h) && decide (s.tb.mode = .running) && lapses s e

/-- What the discard that comes with the end of host `h`'s session sends host `k` (R44, R60): an EVICTED for each of its entries that
leaves, and then, if it watches, TB_STATE with cause DISCARD. -/
def holdEndNews (s : State) (h k : HostId) : List (Time × NoticeBody) :=
  removalNews s k (discardedWith s h) (.evicted · .frameLength) ++
    if s.tb.holder = some h ∧ s.tb.mode = .running ∧ Planned s ∧ s.watches k = true then
      [(s.tb.now, NoticeBody.tbState .running .discard)]
    else []

/-- The session of host `h` has ended with a cause (R29, R60, R100, R101, R119, R131, R149, R160): its record, the loss of
everything it held, its emptied notice record, the lines it held or waited for passed on, the hold with its staged length and
pending stop given up; a channel it was the last to subscribe to becomes IDLE with its counts cleared (R109). What it did not hold
stands, time stands, and every other session is as it was. Another host is sent the CLAIM_GRANTED of each line that passes to it and
the notices of the discard, in an order that is open between the lines and the discard (log entry 2), and nothing else; that the
EVICTED notices of the discard come before its DISCARD notice is DEDUCED (log entry 10). -/
def SessionEnded (s t : State) (h : HostId) (cause : EndCause) : Prop :=
  t.session h =
      { isOpen := false, number := (s.session h).number, silenceLimit := 0, timer := none, watch := false, endCause := cause } ∧
    HoldsNothing t h ∧
    ((t.noticeRec h).urgent = [] ∧ (t.noticeRec h).routine = [] ∧ (t.noticeRec h).lostCount = 0 ∧
      (t.noticeRec h).conditions = ⟨false, false, false⟩ ∧ (t.noticeRec h).attention = false) ∧
    t.entries = s.entries.filter (fun e => decide (e.owner ≠ h) && !discardedWith s h e) ∧ SlotsFollow s t ∧
    t.tb = tbWithout s h ∧
    (∀ c : ChannelId,
      ((s.channel c).subscribers.get h = false → t.channel c = s.channel c) ∧
      ((s.channel c).subscribers.get h = true →
        ((∃ k, k ≠ h ∧ (s.channel c).subscribers.get k = true) →
          t.channel c = { s.channel c with subscribers := (s.channel c).subscribers.set h false }) ∧
        ((∀ k, k ≠ h → (s.channel c).subscribers.get k = false) →
          t.channel c =
            { s.channel c with
              subscribers := (s.channel c).subscribers.set h false, state := .idle, counter := 0, sequence := 0,
              last := none }))) ∧
    (∀ c : ChannelId, (∀ r ∈ s.reflex c, r.owner ≠ h) → t.reflex c = s.reflex c) ∧
    (∀ l : LineId, (s.claim l).holders.get h = true → HoldingLeft s t h l) ∧
    (∀ l : LineId, (s.claim l).holders.get h = false → (∃ w ∈ (s.claim l).waiting, w.host = h) → PlaceWithdrawn s t h l) ∧
    (∀ l : LineId, (s.claim l).holders.get h = false → (∀ w ∈ (s.claim l).waiting, w.host ≠ h) →
      t.claim l = s.claim l ∧ t.line l = s.line l) ∧
    (∀ k, k ≠ h → t.session k = s.session k) ∧
    ∀ k, k ≠ h → ∃ news : List (Time × NoticeBody),
      news.Perm (holdEndNews s h k ++ (List.finRange 12).flatMap fun l => leavingNews s h l k) ∧
        (holdEndNews s h k).Sublist news ∧ Receives s t k news

/-- The record of a port whose transaction has stalled for 64 housekeeping periods (R177). -/
def stalled (r : PortRec) : PortRec :=
  { r with
    transaction := .abandoned, assembly := [], bits := [], stall := 64
    unread := r.unread && decide (r.bytesOut < r.outgoing.length)
    frameErrors := if ∃ b ∈ r.assembly, b ≠ 255 then min (r.frameErrors + 1) 255 else r.frameErrors }

/-- The requests of Table 10-3: each command with its code, its payload length and whether it needs no session (R153). -/
def requestRows : List ((HostId → Instr) × RequestRow) :=
  [(.nop, ⟨0, 0, true⟩), (.openSession, ⟨1, 2, true⟩), (.closeSession, ⟨2, 0, false⟩), (.portReset, ⟨3, 0, true⟩),
    (.hostStatus, ⟨4, 0, true⟩), (.ident, ⟨5, 0, true⟩)] ++
  [(.readNotices, ⟨8, 1, false⟩), (.setNoticeMaps, ⟨9, 4, false⟩), (.ackConditions, ⟨10, 1, false⟩)] ++
  [(.tbHold, ⟨16, 0, false⟩), (.tbRelease, ⟨17, 0, false⟩), (.tbStart, ⟨18, 4, false⟩), (.tbStop, ⟨19, 1, false⟩),
    (.tbSetFrame, ⟨20, 3, false⟩), (.tbSetSync, ⟨21, 4, false⟩), (.tbSetPrescale, ⟨22, 1, false⟩), (.readTime, ⟨23, 0, true⟩),
    (.tbStatus, ⟨24, 0, true⟩)] ++
  [(.schedule, ⟨32, 16, false⟩), (.cancel, ⟨33, 2, false⟩), (.cancelGroup, ⟨34, 1, false⟩), (.queryEntry, ⟨35, 2, false⟩),
    (.scheduleStatus, ⟨36, 0, false⟩)] ++
  [(.claim, ⟨40, 7, false⟩), (.release, ⟨41, 1, false⟩)] ++
  [(.lineSetup, ⟨48, 4, false⟩), (.outputHold, ⟨49, 1, false⟩), (.outputForce, ⟨50, 2, false⟩), (.outputFollow, ⟨51, 1, false⟩),
    (.lineStatus, ⟨52, 1, false⟩)] ++
  [(.senseSetup, ⟨56, 5, false⟩), (.subscribe, ⟨57, 1, false⟩), (.unsubscribe, ⟨58, 1, false⟩), (.senseRearm, ⟨59, 1, false⟩),
    (.senseStatus, ⟨60, 1, false⟩)] ++
  [(.reflexSet, ⟨64, 11, false⟩), (.reflexClear, ⟨65, 1, false⟩)]

end Sys2Proof.Safety
end

