-- ==== Sys2Proof/Certificates/Slice0/Obligations.lean ====
section
/-! DEFINITION. The statements for the provers, one definition each; OBLIGATIONS.json lists them with the rules they rest on. A
statement that takes a request gives the port, the tag and the payload of a complete frame the port holds (`HoldsRequest`), and
says the next state as an equation or field by field; `arrived` is the state in which the request is answered, and `placeReply`
places the reply by R174, its PREV_UNREAD flag in a closed session by the reading of log entry 21. -/

open Sys2Proof Sys2Proof.Machine Sys2Proof.Safety

/-! ## The machine -/

/-- One step with a command in front of the queue is that command's effect, with the queue's rest. The queue is the model's
own (log entry 16). -/
def Obligations.StepTakesFrontCommand : Prop :=
  ∀ (s : State) (c : Instr) (rest : List Instr), s.pending = c :: rest → step s = exec c (s.setPending rest)

/-- Every command of the table answers a next state in every state, and leaves the queue alone. A command whose event the
state does not hold changes nothing, by the model's choice (log entry 3). -/
def Obligations.EveryCommandCompletesAndKeepsTheQueue : Prop :=
  ∀ (c : Instr) (s : State), ∃ t, exec c s = .next t ∧ t.pending = s.pending

/-- The model's choice for a step with nothing to do (log entry 8): one housekeeping period passes, in which time stands, and
while RESET_N is low nothing happens (log entry 17). The monitor counts the period: four without a REFCLK edge declare ABSENT,
two with one declare PRESENT, and both counts start from 0 behind a declaration (log entry 13). A running silence timer
counts it, 262 to a unit, and ends its session at the limit. The idle check of a SHIFTING port counts it, and abandons the
transaction at the 64th. A period that declares no ABSENT and ends no session changes no record but these and, where it declares
PRESENT, the notice records of the holder and the watchers, each of whom is sent TB_STATE with cause REF_BACK; where it declares
nothing, the notice records stand. -/
def Obligations.EmptyQueueStepIsAHousekeepingPeriod : Prop :=
  ∀ s : State, s.pending = [] →
    (s.resetN = false → step s = .next s) ∧
    (s.resetN = true →
      ∃ t, step s = .next t ∧ t.pending = [] ∧ t.resetN = true ∧ t.tb.now = s.tb.now ∧ t.tb.length = s.tb.length ∧
        (s.tb.monitor.verdict = .present →
          (s.tb.monitor.edgeSeen = true →
            t.tb.mode = s.tb.mode ∧ t.tb.monitor = { s.tb.monitor with withoutEdge := 0, edgeSeen := false }) ∧
          (s.tb.monitor.edgeSeen = false → s.tb.monitor.withoutEdge < 3 →
            t.tb.mode = s.tb.mode ∧
              t.tb.monitor = { s.tb.monitor with withoutEdge := s.tb.monitor.withoutEdge + 1, edgeSeen := false }) ∧
          (s.tb.monitor.edgeSeen = false → s.tb.monitor.withoutEdge = 3 →
            t.tb.mode = .refLost ∧ t.tb.monitor = { verdict := .absent, withoutEdge := 0, withEdge := 0, edgeSeen := false })) ∧
        (s.tb.monitor.verdict = .absent →
          t.tb.mode = s.tb.mode ∧
            (s.tb.monitor.edgeSeen = false → t.tb.monitor = { s.tb.monitor with withEdge := 0, edgeSeen := false }) ∧
            (s.tb.monitor.edgeSeen = true → s.tb.monitor.withEdge = 0 →
              t.tb.monitor = { s.tb.monitor with withEdge := 1, edgeSeen := false }) ∧
            (s.tb.monitor.edgeSeen = true → s.tb.monitor.withEdge = 1 →
              t.tb.monitor = { verdict := .present, withoutEdge := 0, withEdge := 0, edgeSeen := false })) ∧
        (∀ h : HostId,
          (¬ Open s h ∨ (s.session h).timer = none → t.session h = s.session h) ∧
          ∀ units periods, Open s h → (s.session h).timer = some ⟨units, periods⟩ →
            (periods < 261 → units < (s.session h).silenceLimit →
              t.session h = { s.session h with timer := some ⟨units, periods + 1⟩ }) ∧
            (periods = 261 → units + 1 < (s.session h).silenceLimit →
              t.session h = { s.session h with timer := some ⟨units + 1, 0⟩ }) ∧
            (periods = 261 → units + 1 = (s.session h).silenceLimit →
              t.session h =
                { isOpen := false, number := (s.session h).number, silenceLimit := 0, timer := none, watch := false,
                  endCause := .silence })) ∧
        (∀ p : HostId,
          ((s.port p).transaction ≠ .shifting → t.port p = s.port p) ∧
          ((s.port p).transaction = .shifting → (s.port p).stall < 63 →
            t.port p = { s.port p with stall := (s.port p).stall + 1 }) ∧
          ((s.port p).transaction = .shifting → (s.port p).stall = 63 → t.port p = stalled (s.port p))) ∧
        ((∀ h : HostId, ¬ Open s h ∨ (s.session h).timer = none ∨
            ∃ units periods, (s.session h).timer = some ⟨units, periods⟩ ∧ periods < 262 ∧
              (units + 1 < (s.session h).silenceLimit ∨ units < (s.session h).silenceLimit ∧ periods < 261)) →
          (s.tb.monitor.verdict = .absent ∨ s.tb.monitor.edgeSeen = true ∨ s.tb.monitor.withoutEdge < 3) →
          t.tb = { s.tb with monitor := t.tb.monitor } ∧ t.entries = s.entries ∧ t.uses = s.uses ∧ t.lines = s.lines ∧
            t.claims = s.claims ∧ t.channels = s.channels ∧ t.reflexes = s.reflexes ∧
            ∀ h, Receives s t h
              (if s.tb.monitor.verdict = .absent ∧ s.tb.monitor.edgeSeen = true ∧ 1 ≤ s.tb.monitor.withEdge then
                timebaseNews s h s.tb.now (.tbState s.tb.mode .refBack)
              else [])))

/-- The state right after reset meets every invariant of Safety.lean. The input pins of that state are the model's choice
(log entry 1). -/
def Obligations.ResetMeetsEveryInvariant : Prop :=
  (TimebaseInRange State.reset ∧ MissesBelowLoss State.reset ∧ PlansAreHeld State.reset ∧ RunsOnReference State.reset) ∧
    (AttentionSettled State.reset ∧ QueuesInRoom State.reset ∧ CountsSaturate State.reset ∧ SessionsConsistent State.reset) ∧
    (ClaimsConsistent State.reset ∧ WaitListsConsistent State.reset ∧ FreeLinesCleared State.reset) ∧
    (ChannelsConsistent State.reset ∧ ChannelCountsInRange State.reset ∧ ReflexesOwned State.reset) ∧
    (ScheduleInRoom State.reset ∧ HandlesCurrent State.reset ∧ ScheduleDueLater State.reset ∧ EntriesOwned State.reset ∧
      NoCollisions State.reset ∧ RecurrencesInRange State.reset) ∧
    ClosedHoldsNothing State.reset ∧ PortsConsistent State.reset ∧ ResetIsHeld State.reset

/-- A device reset leaves every record at the value its chapter gives, whatever the state before, and finds the pins as its
operands say: a port whose chip select is low is ABANDONED, and each settled level is its line's. While RESET_N is held low
every data output is at high impedance and every attention pin high. One command holds RESET_N low or releases it, and the
queue stands, by the model's choice (log entry 17). The monitor's note of an edge, clear afterwards, is the model's choice
(log entry 19); the port items of that entry (the bits of a partial byte, the outgoing frame and the falling edges counted)
are left out here. -/
def Obligations.DeviceResetRestoresEveryRecord : Prop :=
  ∀ (s : State) (level : Level) (low : HostSet) (senses : BitVec 8),
    ∃ t, exec (.deviceReset ⟨level, low⟩ senses) s = .next t ∧ t.resetN = level ∧ t.pending = s.pending ∧
      (level = false → ∀ h : HostId, t.sdo h = none ∧ t.atn h = true) ∧
      t.entries = [] ∧ (∀ i : SlotId, t.uses[i] = 0) ∧
      t.tb =
        { mode := .halted, now := ⟨0, 0⟩, length := 10000, staged := none, prescale := 1, divider := 0, syncMode := .none,
          window := 0, lock := .searching, missCount := 0, prevMissed := false, runLimit := 0, pendingStop := false,
          holder := none, monitor := { verdict := .present, withoutEdge := 0, withEdge := 0, edgeSeen := false } } ∧
      (∀ l : LineId,
        t.line l =
            { level := false, output := .driven, heldLevel := false, pulse := none,
              settings := { idle := false, frameReturn := false, safe := none } } ∧
          t.pin l = none ∧
          t.claim l = { state := .free, holders := ⟨false, false, false, false⟩, policy := .refuse, waiting := [] }) ∧
      (∀ c : ChannelId,
        t.channel c =
            { state := .idle, edge := .rising, filter := .off, prescale := 0, gate := false,
              subscribers := ⟨false, false, false, false⟩, counter := 0, settled := senses.getLsbD c.val, filterCount := 0,
              sequence := 0, last := none, pin := senses.getLsbD c.val } ∧
          t.reflex c = none) ∧
      (∀ h : HostId,
        t.session h = { isOpen := false, number := 0, silenceLimit := 0, timer := none, watch := false,
                        endCause := .deviceReset } ∧
          t.noticeRec h =
            { urgent := [], routine := [], urgencyMap := 0b10101111100, attentionMask := 0b11111111111, nextNumber := 0,
              lostCount := 0, conditions := ⟨false, false, false⟩, attention := false } ∧
          (t.port h).transaction = (if low.get h then .abandoned else .idle) ∧ (t.port h).assembly = [] ∧
          (t.port h).bytesOut = 0 ∧ (t.port h).slot = none ∧ (t.port h).unread = false ∧ (t.port h).frameErrors = 0 ∧
          (t.port h).stall = 0)

/-! ## Host ports -/

/-- A port that holds a request frame with fill bytes behind it takes that frame, and its CRC fits. -/
def Obligations.HeldRequestFrameIsTaken : Prop :=
  ∀ (s : State) (p : HostId) (code : Nat) (tag : Byte) (payload : List Byte),
    code < 255 → payload.length ≤ 48 → HoldsRequest s p code tag payload →
      s.takenFrame p = some (requestFrame code tag payload) ∧ (requestFrame code tag payload).sound = true

/-- The CRC is the remainder of R183: it starts at 0, takes the bytes in frame order and each byte's bits most significant
first, compares each with its own most significant bit, shifts left, and combines with 7 where the two differ. A request
frame's CRC fits when it is that of the bytes before it, and a reply frame ends in that of its own. A frame with its CRC
appended leaves the remainder 0, and the two frames that R183 writes out have the CRCs it gives. -/
def Obligations.CrcLeavesNoRemainder : Prop :=
  crc8 [] = 0 ∧
    (∀ (bs : List Byte) (b : Byte),
      crc8 (bs ++ [b]) =
        (List.finRange 8).foldl
          (fun (r : Byte) i => if r.msb ≠ b.getMsbD i.val then (r <<< 1) ^^^ 7 else r <<< 1) (crc8 bs)) ∧
    (∀ f : RequestFrame,
      f.sound = true ↔ f.crc = crc8 (f.opcode :: f.tag :: byte f.payload.length :: f.payload)) ∧
    (∀ r : Reply, ∃ body, r.bytes = body ++ [crc8 body]) ∧
    (∀ bs : List Byte, crc8 (bs ++ [crc8 bs]) = 0) ∧ crc8 [0, 1, 0] = 21 ∧ crc8 [3, 0, 0, 0] = 58

/-- A falling chip select starts a transaction on an IDLE port: the assembly is emptied, the counts return to 0, and the
outgoing frame is the slot's reply, byte by byte, or the EMPTY frame. That no transaction starts while RESET_N is low is the
model's choice (log entry 17). -/
def Obligations.ChipSelectFallingChoosesTheOutgoingFrame : Prop :=
  ∀ (s : State) (p : HostId), (s.port p).transaction = .idle →
    (s.resetN = false → exec (.chipSelectFalling p) s = .next s) ∧
    (s.resetN = true →
      ∃ out, exec (.chipSelectFalling p) s =
          .next (s.setPort p
            { s.port p with
              transaction := .shifting, assembly := [], bits := [], bytesOut := 0, stall := 0, bitsOut := 0,
              outgoing := out }) ∧
        ((s.port p).slot = none → out = [3, 0, 0, 0, 58]) ∧
        ∀ r ∈ (s.port p).slot, ∃ body,
          body =
              [r.status.code, r.tag,
                byte ((if r.prevUnread then 1 else 0) + (if r.noticesHeld then 2 else 0) + (if r.attention then 4 else 0)),
                byte r.payload.length] ++ r.payload ∧
            out = body ++ [crc8 body])

/-- Eight rising clock edges shift one byte in, most significant bit first, and count one byte out; each sets the stall count
to 0. A falling edge moves the data output on by one bit: it shows the outgoing frame from its first bit on, each byte most
significant bit first, and then fill bits. While chip select is high, or the transaction is abandoned, no edge does anything;
the data output is at high impedance in the one case, and shows fill bits in the other. That a byte is eight rising edges is
the reading of log entry 4, and that the fill bits of an abandoned port are 1 that of log entry 12. -/
def Obligations.EightRisingEdgesShiftOneByte : Prop :=
  ∀ (s : State) (p : HostId) (b : Byte),
    (s.resetN = true →
      ((s.port p).transaction = .idle → s.sdo p = none) ∧
      ((s.port p).transaction = .shifting →
        (∀ (before behind : List Byte) (out : Byte) (i : Fin 8), (s.port p).outgoing = before ++ out :: behind →
          (s.port p).bitsOut = 8 * before.length + i.val → s.sdo p = some (out.getMsbD i.val)) ∧
        (8 * (s.port p).outgoing.length ≤ (s.port p).bitsOut → s.sdo p = some true)) ∧
      ((s.port p).transaction = .abandoned → s.sdo p = some true)) ∧
    ((s.port p).transaction = .shifting → (s.port p).bits = [] →
      (bitsOf b).foldl
          (fun (o : Host.Outcome State Fault Refusal) bit => match o with
            | .next t => exec (.spiClockEdge p .rising bit) t
            | other => other)
          (Host.Outcome.next s) =
        Host.Outcome.next (s.setPort p
          { s.port p with assembly := (s.port p).assembly ++ [b], bytesOut := (s.port p).bytesOut + 1, stall := 0 })) ∧
      ((s.port p).transaction = .shifting →
        ∀ sdi, exec (.spiClockEdge p .falling sdi) s =
          .next (s.setPort p { s.port p with bitsOut := (s.port p).bitsOut + 1, stall := 0 })) ∧
      (((s.port p).transaction = .idle ∨ (s.port p).transaction = .abandoned) →
        ∀ edge sdi, exec (.spiClockEdge p edge sdi) s = .next s)

/-- A transaction that ends without a complete frame takes no request: an idle one only settles the read-out, a runt or over-
long frame counts one frame error besides, and an abandoned one only ends. A transaction that the next housekeeping period
takes to its 64th without a clock edge is abandoned: its read-out is settled and its assembly emptied, and it counts one frame
error when it held a byte that was not a fill byte. That TRANSACTION_ABANDONED is that period's event, and changes nothing
where the count has further to go, is the model's choice (log entries 3 and 7). -/
def Obligations.TransactionsThatEndWithoutAFrame : Prop :=
  ∀ (s : State) (p : HostId),
    ((s.port p).transaction = .shifting → (∀ b ∈ (s.port p).assembly, b = 255) →
      exec (.transactionEnd p) s = .next (transactionOver s p)) ∧
    ((s.port p).transaction = .shifting → (∃ b ∈ (s.port p).assembly, b ≠ 255) →
      ((s.port p).assembly.length ≤ 2 ∨
          ∃ op tag len rest, (s.port p).assembly = op :: tag :: len :: rest ∧
            (48 < len.toNat ∨ rest.length ≤ len.toNat ∨ ∃ b ∈ rest.drop (len.toNat + 1), b ≠ 255)) →
      exec (.transactionEnd p) s =
        .next ((transactionOver s p).setPort p
          { (transactionOver s p).port p with frameErrors := min ((s.port p).frameErrors + 1) 255 })) ∧
    ((s.port p).transaction = .abandoned →
      exec (.transactionEnd p) s = .next (s.setPort p { s.port p with transaction := .idle })) ∧
    ((s.port p).transaction = .shifting → 63 ≤ (s.port p).stall →
      exec (.transactionAbandoned p) s = .next (s.setPort p (stalled (s.port p)))) ∧
    (((s.port p).transaction ≠ .shifting ∨ (s.port p).stall < 63) → exec (.transactionAbandoned p) s = .next s)

/-- A complete frame with a wrong CRC, whatever its opcode, reaches no block: the frame error count rises, FRAME_ERROR is set
in an open session, the reply is BAD_CRC, and the silence timer is not restarted. -/
def Obligations.BadCrcIsCountedAndAnswered : Prop :=
  ∀ (s : State) (p : HostId) (f : RequestFrame) (c : Instr),
    s.takenFrame p = some f → f.sound = false →
      ((∃ r ∈ requestRows, f.opcode.toNat = r.2.code ∧ c = r.1 p) ∨
        (∀ r ∈ requestRows, f.opcode.toNat ≠ r.2.code) ∧ c = .badOpcodeFrame p) →
      ∃ t, exec c s = .next t ∧ SameBlocks s t ∧ OthersSame s t p ∧ t.sessions = s.sessions ∧
        (t.port p).transaction = .idle ∧ (t.port p).frameErrors = min ((s.port p).frameErrors + 1) 255 ∧
        Answers t p f.tag .badCrc [] ∧
        (t.noticeRec p).held = (s.noticeRec p).held ∧ (t.noticeRec p).lostCount = (s.noticeRec p).lostCount ∧
        (Open s p → (t.noticeRec p).conditions.frameError = true ∧ (t.noticeRec p).attention = true) ∧
        (¬ Open s p → t.noticeRec p = s.noticeRec p)

/-- The port's own refusals, in their order: an opcode that names no request is answered BAD_OPCODE, a payload of another
length BAD_LENGTH, and a request that needs a session NO_SESSION while the session is CLOSED; nothing changes but the port's
record and a running silence timer. The PREV_UNREAD flag of a reply in a closed session is the reading of log entry 21. -/
def Obligations.PortRefusesBeforeAnyBlock : Prop :=
  ∀ (s : State) (p : HostId) (f : RequestFrame), s.takenFrame p = some f → f.sound = true →
    ((∀ r ∈ requestRows, f.opcode.toNat ≠ r.2.code) →
      exec (.badOpcodeFrame p) s = .next ((arrived s p).placeReply p f.tag .badOpcode [])) ∧
    ∀ r ∈ requestRows, f.opcode.toNat = r.2.code →
      (f.payload.length ≠ r.2.length → exec (r.1 p) s = .next ((arrived s p).placeReply p f.tag .badLength [])) ∧
      (f.payload.length = r.2.length → r.2.sessionless = false → (s.session p).isOpen = false →
        exec (r.1 p) s = .next ((arrived s p).placeReply p f.tag .noSession []))

/-- A request whose fields name no value is refused with BAD_ARG, whatever the block's state; nothing changes but the port's
record and a running silence timer. That a TB_START whose mode names no value is refused also where it would cancel a pending
stop is the reading of log entry 20, and the PREV_UNREAD flag of a reply in a closed session (OPEN) that of log entry 21. -/
def Obligations.BadFieldsAreRefused : Prop :=
  ∀ (s : State) (p : HostId) (tag : Byte) (c : Instr),
    ((∃ limit watch : Byte, HoldsRequest s p 1 tag [limit, watch] ∧ c = .openSession p ∧ 2 ≤ watch.toNat) ∨
      Open s p ∧
        ((∃ mode source r1 r0 : Byte, HoldsRequest s p 18 tag [mode, source, r1, r0] ∧ c = .tbStart p ∧
            (2 ≤ mode.toNat ∨ 2 ≤ source.toNat)) ∨
          (∃ option : Byte, HoldsRequest s p 19 tag [option] ∧ c = .tbStop p ∧ 2 ≤ option.toNat) ∨
          (∃ mode w2 w1 w0 : Byte, HoldsRequest s p 21 tag [mode, w2, w1, w0] ∧ c = .tbSetSync p ∧ 2 ≤ mode.toNat) ∨
          (∃ line mode wait idle ret safe policy : Byte,
            HoldsRequest s p 40 tag [line, mode, wait, idle, ret, safe, policy] ∧ c = .claim p ∧
              (12 ≤ line.toNat ∨ 2 ≤ mode.toNat ∨ 2 ≤ wait.toNat ∨ 2 ≤ idle.toNat ∨ 2 ≤ ret.toNat ∨ 3 ≤ safe.toNat ∨
                mode = 1 ∧ 3 ≤ policy.toNat)) ∨
          (∃ line : Byte, 12 ≤ line.toNat ∧
            (HoldsRequest s p 41 tag [line] ∧ c = .release p ∨ HoldsRequest s p 49 tag [line] ∧ c = .outputHold p ∨
              HoldsRequest s p 51 tag [line] ∧ c = .outputFollow p ∨ HoldsRequest s p 52 tag [line] ∧ c = .lineStatus p)) ∨
          (∃ line idle ret safe : Byte, HoldsRequest s p 48 tag [line, idle, ret, safe] ∧ c = .lineSetup p ∧
            (12 ≤ line.toNat ∨ 2 ≤ idle.toNat ∨ 2 ≤ ret.toNat ∨ 3 ≤ safe.toNat)) ∨
          (∃ line level : Byte, HoldsRequest s p 50 tag [line, level] ∧ c = .outputForce p ∧
            (12 ≤ line.toNat ∨ 2 ≤ level.toNat)) ∨
          (∃ channel edge filter prescale gate : Byte,
            HoldsRequest s p 56 tag [channel, edge, filter, prescale, gate] ∧ c = .senseSetup p ∧
              (8 ≤ channel.toNat ∨ 3 ≤ edge.toNat ∨ 3 ≤ filter.toNat ∨ 2 ≤ gate.toNat)) ∨
          (∃ channel : Byte, 8 ≤ channel.toNat ∧
            (HoldsRequest s p 57 tag [channel] ∧ c = .subscribe p ∨ HoldsRequest s p 58 tag [channel] ∧ c = .unsubscribe p ∨
              HoldsRequest s p 60 tag [channel] ∧ c = .senseStatus p ∨
              HoldsRequest s p 65 tag [channel] ∧ c = .reflexClear p)) ∨
          (∃ channel target action w1 w0 d2 d1 d0 late notify group : Byte,
            HoldsRequest s p 64 tag [channel, target, action, w1, w0, d2, d1, d0, late, notify, group] ∧ c = .reflexSet p ∧
              (8 ≤ channel.toNat ∨ action = 4 ∨ 6 ≤ action.toNat ∨ action ≠ 5 ∧ 12 ≤ target.toNat ∨
                action = 3 ∧ number2 w1 w0 = 0 ∨ number3 d2 d1 d0 = 0 ∨ 2 ≤ late.toNat ∨
                action ≠ 5 ∧ 2 ≤ notify.toNat ∨ 16 ≤ group.toNat)))) →
      exec c s = .next ((arrived s p).placeReply p tag .badArg [])

/-- NOP passes the port's checks like any request, in every session state: with a bad CRC it is answered BAD_CRC, with a payload
BAD_LENGTH. One that passes them is answered EMPTY, with its tag and no payload, the reply placed with the flags of R174: the
slot's unread reply, the notices held and the attention output. It changes nothing else but a running silence timer. That
PREV_UNREAD is set from the slot in a closed session too is the reading of log entry 21. -/
def Obligations.NopIsAnsweredEmpty : Prop :=
  ∀ (s : State) (p : HostId) (tag : Byte),
    (HoldsRequest s p 0 tag [] →
      exec (.nop p) s =
        .next ((arrived s p).setPort p
          { s.port p with
            transaction := .idle, unread := true
            slot := some
              { status := .empty, tag, payload := []
                prevUnread :=
                  (s.port p).slot.isSome && (s.port p).unread &&
                    decide ((s.port p).bytesOut < (s.port p).outgoing.length)
                noticesHeld := !((s.noticeRec p).urgent ++ (s.noticeRec p).routine).isEmpty
                attention := (s.noticeRec p).attention } })) ∧
    (∀ payload : List Byte, payload ≠ [] → payload.length ≤ 48 → HoldsRequest s p 0 tag payload →
      Refuses (.nop p) s p tag .badLength) ∧
    ∀ f : RequestFrame, s.takenFrame p = some f → f.opcode = 0 → f.sound = false →
      ∃ t, exec (.nop p) s = .next t ∧ SameBlocks s t ∧ t.sessions = s.sessions ∧ Answers t p f.tag .badCrc []

/-! ## Sessions -/

/-- OPEN on a closed session opens it: the next session number, the limit and the watch flag of the request, a fresh notice
record, and a reply with the number and the previous end cause. On an open session it is refused with ALREADY and the number.
-/
def Obligations.OpenStartsASession : Prop :=
  ∀ (s : State) (p : HostId) (tag limit watch : Byte) (w : Bool),
    HoldsRequest s p 1 tag [limit, watch] → boolOf watch = some w →
      ((s.session p).isOpen = false →
        exec (.openSession p) s =
          .next ((((arrived s p).setSession p
              { isOpen := true, number := (s.session p).number + 1, silenceLimit := limit.toNat,
                timer := if limit = 0 then none else some ⟨0, 0⟩, watch := w, endCause := .none }).setNotice p
              { urgent := [], routine := [], urgencyMap := 0b10101111100, attentionMask := 0b11111111111, nextNumber := 0,
                lostCount := 0, conditions := ⟨false, false, false⟩, attention := false }).placeReply p tag .ok
            [(s.session p).number + 1, (s.session p).endCause.code])) ∧
      ((s.session p).isOpen = true →
        exec (.openSession p) s = .next ((arrived s p).placeReply p tag .already [(s.session p).number]))

/-- CLOSE ends the requester's session with cause CLOSE: everything it held is gone, its queue and conditions are cleared, the
lines it held or waited for pass on, the channels it subscribed to lose it, the holder's plans are discarded, the other hosts
are told what passes to them and what the discard does to them, and the reply carries the number of the session that ended,
its NOTICES_HELD and ATTENTION flags clear. The layout of the reply is the reading of log entry 5, and that the EVICTED notices
of a discard come before its DISCARD notice that of log entry 10; the order of the other notices is open (log entry 2). -/
def Obligations.CloseEndsTheSession : Prop :=
  ∀ (s : State) (p : HostId) (tag : Byte),
    HoldsRequest s p 2 tag [] → Open s p → WaitListsConsistent s → ScheduleInRoom s →
      ∃ t, exec (.closeSession p) s = .next t ∧ SessionEnded s t p .close ∧
        Answers t p tag .ok [(s.session p).number] ∧ (t.port p).frameErrors = (s.port p).frameErrors ∧
        ∀ k, k ≠ p → t.port k = s.port k

/-- PORT_RESET clears the port's frame error count and its slot, ends an open session with cause PORT_RESET, leaves a closed
one as it is, and says in its reply which it did; PREV_UNREAD is clear. The layout of the reply is the reading of log
entry 5, and that the EVICTED notices of a discard come before its DISCARD notice that of log entry 10; the order of the other
notices of the session end is open (log entry 2). -/
def Obligations.PortResetClearsThePort : Prop :=
  ∀ (s : State) (p : HostId) (tag : Byte), HoldsRequest s p 3 tag [] → WaitListsConsistent s → ScheduleInRoom s →
    ∃ t, exec (.portReset p) s = .next t ∧ (t.port p).frameErrors = 0 ∧ (∀ r ∈ (t.port p).slot, r.prevUnread = false) ∧
      (∀ k, k ≠ p → t.port k = s.port k) ∧
      (Open s p → SessionEnded s t p .portReset ∧ Answers t p tag .ok [1]) ∧
      (¬ Open s p → SameBlocks s t ∧ t.sessions = s.sessions ∧ t.notices = s.notices ∧ Answers t p tag .ok [0])

/-- The expiry of a running silence timer ends its session with cause SILENCE, and leaves every port as it was. That
SILENCE_EXPIRY is the event of the housekeeping period that completes the limit (the 262nd of its last unit) is the model's
choice (log entry 7): where the timer has further to go, is stopped, or the session is closed, there is no expiry, and that the
command then changes nothing is the model's choice too (log entry 3). That the EVICTED notices of a discard come before its
DISCARD notice is the reading of log entry 10; the order of the other notices is open (log entry 2). -/
def Obligations.SilenceExpiryEndsTheSession : Prop :=
  ∀ (s : State) (h : HostId),
    (Open s h → ∀ units, (s.session h).timer = some ⟨units, 261⟩ → units + 1 = (s.session h).silenceLimit →
      WaitListsConsistent s → ScheduleInRoom s →
        ∃ t, exec (.silenceExpiry h) s = .next t ∧ SessionEnded s t h .silence ∧ t.ports = s.ports) ∧
    (∀ units periods, (s.session h).timer = some ⟨units, periods⟩ → periods < 262 →
      (units + 1 < (s.session h).silenceLimit ∨ units < (s.session h).silenceLimit ∧ periods < 261) →
        exec (.silenceExpiry h) s = .next s) ∧
    (¬ Open s h ∨ (s.session h).timer = none → exec (.silenceExpiry h) s = .next s)

/-- HOST_STATUS and TB_STATUS report the requesting host's record and the timebase record, item by item, in every session
state, and change nothing but the port's record and a running silence timer. The PREV_UNREAD flag of a reply in a closed
session is the reading of log entry 21. -/
def Obligations.SessionlessStatusRequestsReport : Prop :=
  ∀ (s : State) (p : HostId) (tag : Byte),
    (HoldsRequest s p 4 tag [] →
      exec (.hostStatus p) s =
        .next ((arrived s p).placeReply p tag .ok
          [flagByte (s.session p).isOpen, (s.session p).number, (s.session p).endCause.code, byte (s.session p).silenceLimit,
            flagByte (s.session p).watch, byte (s.noticeRec p).urgent.length, byte (s.noticeRec p).routine.length,
            byte (s.noticeRec p).lostCount, conditionsByte (s.noticeRec p).conditions, byte (s.port p).frameErrors])) ∧
    (HoldsRequest s p 24 tag [] →
      exec (.tbStatus p) s =
        .next ((arrived s p).placeReply p tag .ok
          ([s.tb.mode.code] ++ timeBytes s.tb.now ++ bytes3 s.tb.length ++
            (match s.tb.staged with
              | none => [0, 0, 0, 0]
              | some n => 1 :: bytes3 n) ++
            [byte s.tb.prescale, s.tb.syncMode.code] ++ bytes3 s.tb.window ++
            [s.tb.lock.code, byte s.tb.missCount, flagByte s.tb.prevMissed] ++ bytes2 s.tb.runLimit ++
            [flagByte s.tb.pendingStop, hostByte s.tb.holder, s.tb.monitor.verdict.code])))

/-- IDENT is answered, whatever the session and the timebase, with part code 412 (bytes 1 and 156), revision B (66) and
protocol level 1. The PREV_UNREAD flag of the reply in a closed session is the reading of log entry 21. -/
def Obligations.IdentNamesThePart : Prop :=
  ∀ (s : State) (p : HostId) (tag : Byte), HoldsRequest s p 5 tag [] →
    exec (.ident p) s = .next ((arrived s p).placeReply p tag .ok [1, 156, 66, 1])

/-! ## Notices -/

/-- READ_NOTICES takes up to n notices out of the queue, urgent ones first and each class oldest first, and carries them
whole, twelve bytes each: kind code, class and the three flags of a DONE in the first, then the number, the stamp and the
kind's fields. With n outside 1 to 4 it is refused and takes none. -/
def Obligations.ReadNoticesTakesUrgentFirst : Prop :=
  (∀ (number : Byte) (urgent : Bool) (stamp : Time) (lead : Nat → List Byte),
    (∀ first, lead first =
        [byte (first + if urgent then 16 else 0), number] ++ bytes2 stamp.frame.toNat ++ bytes3 stamp.phase) →
      (∀ (slot : SlotId) (use : BitVec 9) (action : Action) (target : Option Nat) (level late final : Bool) (remaining : Nat),
        (Notice.bytes ⟨number, urgent, stamp, .fired ⟨slot, use⟩ action target level late final remaining .host⟩ =
            lead (1 + (if level then 32 else 0) + (if late then 64 else 0) + (if final then 128 else 0)) ++
              bytes2 (use.toNat * 128 + slot.val) ++ bytes2 remaining ++
              [byte (action.code.toNat * 16 + target.getD 15)]) ∧
        ∀ channel : ChannelId,
          Notice.bytes ⟨number, urgent, stamp, .fired ⟨slot, use⟩ action target level late final remaining (.reflex channel)⟩ =
            lead (1 + (if level then 32 else 0) + (if late then 64 else 0) + (if final then 128 else 0)) ++
              bytes2 (use.toNat * 128 + slot.val) ++ [byte channel.val, 0] ++
              [byte (128 + action.code.toNat * 16 + target.getD 15)]) ∧
      (∀ (channel : ChannelId) (edge : EdgeDir) (sequence : BitVec 16),
        Notice.bytes ⟨number, urgent, stamp, .capture channel edge sequence⟩ =
          lead 2 ++ [byte channel.val, edge.code] ++ bytes2 sequence.toNat ++ [0]) ∧
      (∀ (slot : SlotId) (use : BitVec 9) (target : Option Nat),
        Notice.bytes ⟨number, urgent, stamp, .expired ⟨slot, use⟩ target⟩ =
          lead 3 ++ bytes2 (use.toNat * 128 + slot.val) ++
            [match target with
              | none => 255
              | some k => byte k, 0, 0]) ∧
      (∀ (slot : SlotId) (use : BitVec 9) (reason : EvictReason),
        Notice.bytes ⟨number, urgent, stamp, .evicted ⟨slot, use⟩ reason⟩ =
          lead 4 ++ bytes2 (use.toNat * 128 + slot.val) ++ [reason.code, 0, 0]) ∧
      (∀ (slot : SlotId) (use : BitVec 9) (reason : RemovalReason),
        Notice.bytes ⟨number, urgent, stamp, .cancelled ⟨slot, use⟩ reason⟩ =
          lead 5 ++ bytes2 (use.toNat * 128 + slot.val) ++ [reason.code, 0, 0]) ∧
      (∀ (channel : ChannelId) (status : Status) (reason : RemovalReason),
        Notice.bytes ⟨number, urgent, stamp, .reflexLost channel status⟩ = lead 6 ++ [byte channel.val, status.code, 0, 0, 0] ∧
          Notice.bytes ⟨number, urgent, stamp, .reflexRemoved channel reason⟩ =
            lead 7 ++ [byte channel.val, reason.code, 0, 0, 0]) ∧
      (∀ (line : LineId) (mode : ClaimMode) (policy : Policy),
        Notice.bytes ⟨number, urgent, stamp, .claimGranted line mode policy⟩ =
          lead 8 ++ [byte line.val, mode.code, policy.code, 0, 0]) ∧
      ∀ (mode : TbMode) (cause : TbCause) (length : Nat) (news : SyncNews) (misses : Nat),
        Notice.bytes ⟨number, urgent, stamp, .tbState mode cause⟩ = lead 9 ++ [mode.code, cause.code, 0, 0, 0] ∧
          Notice.bytes ⟨number, urgent, stamp, .tbFrame length⟩ = lead 10 ++ bytes3 length ++ [0, 0] ∧
          Notice.bytes ⟨number, urgent, stamp, .syncEvent news misses⟩ = lead 11 ++ [news.code, byte misses, 0, 0, 0]) ∧
  ∀ (s : State) (p : HostId) (tag n : Byte), HoldsRequest s p 8 tag [n] → Open s p →
    ((1 ≤ n.toNat ∧ n.toNat ≤ 4) →
      ∃ r : NoticeRec,
        exec (.readNotices p) s =
            .next (((arrived s p).setNotice p r).placeReply p tag .ok
              ((((s.noticeRec p).urgent ++ (s.noticeRec p).routine).take n.toNat).flatMap Notice.bytes)) ∧
          r.urgent ++ r.routine = ((s.noticeRec p).urgent ++ (s.noticeRec p).routine).drop n.toNat ∧
          r.urgent = (s.noticeRec p).urgent.drop n.toNat ∧
          r = { s.noticeRec p with urgent := r.urgent, routine := r.routine, attention := r.attention } ∧
          (r.attention = true ↔
            (∃ x ∈ r.urgent ++ r.routine, KindSet.has r.attentionMask x.body.kind = true) ∨
              r.conditions ≠ ⟨false, false, false⟩)) ∧
    ((n.toNat = 0 ∨ 4 < n.toNat) → exec (.readNotices p) s = .next ((arrived s p).placeReply p tag .badArg []))

/-- SET_NOTICE_MAPS replaces both maps, settles the attention output by the new mask, leaves held notices as they are, and
reports the maps that were in force; a set with a bit above the eleven kinds is refused. The layout of the reply is the
reading of log entry 5. -/
def Obligations.SetNoticeMapsReplacesBothMaps : Prop :=
  ∀ (s : State) (p : HostId) (tag u1 u0 a1 a0 : Byte), HoldsRequest s p 9 tag [u1, u0, a1, a0] → Open s p →
    ((number2 u1 u0 < 2048 ∧ number2 a1 a0 < 2048) →
      ∃ r : NoticeRec,
        exec (.setNoticeMaps p) s =
            .next (((arrived s p).setNotice p r).placeReply p tag .ok
              (bytes2 (s.noticeRec p).urgencyMap.toNat ++ bytes2 (s.noticeRec p).attentionMask.toNat)) ∧
          r.urgencyMap.toNat = number2 u1 u0 ∧ r.attentionMask.toNat = number2 a1 a0 ∧
          r = { s.noticeRec p with urgencyMap := r.urgencyMap, attentionMask := r.attentionMask, attention := r.attention } ∧
          (r.attention = true ↔
            (∃ x ∈ r.urgent ++ r.routine, KindSet.has r.attentionMask x.body.kind = true) ∨
              r.conditions ≠ ⟨false, false, false⟩)) ∧
    ((2048 ≤ number2 u1 u0 ∨ 2048 ≤ number2 a1 a0) →
      exec (.setNoticeMaps p) s = .next ((arrived s p).placeReply p tag .badArg []))

/-- ACK_CONDITIONS clears the flags it names and no other, zeroes the lost count when it names NOTICE_LOSS, and reports flags
and count as they stood; a set with a bit above the three flags is refused. The layout of the reply is the reading of log
entry 5, and the PREV_UNREAD flag of a reply in a closed session that of log entry 21. -/
def Obligations.AckConditionsClearsTheNamedFlags : Prop :=
  ∀ (s : State) (p : HostId) (tag b : Byte), HoldsRequest s p 10 tag [b] →
    ((s.session p).isOpen = false → Refuses (.ackConditions p) s p tag .noSession) ∧
    (Open s p → b.toNat < 8 →
      ∃ r : NoticeRec,
        exec (.ackConditions p) s =
            .next (((arrived s p).setNotice p r).placeReply p tag .ok
              [conditionsByte (s.noticeRec p).conditions, byte (s.noticeRec p).lostCount]) ∧
          r.conditions.noticeLoss = ((s.noticeRec p).conditions.noticeLoss && !b.getLsbD 0) ∧
          r.conditions.tbAlert = ((s.noticeRec p).conditions.tbAlert && !b.getLsbD 1) ∧
          r.conditions.frameError = ((s.noticeRec p).conditions.frameError && !b.getLsbD 2) ∧
          r.lostCount = (if b.getLsbD 0 then 0 else (s.noticeRec p).lostCount) ∧
          r = { s.noticeRec p with conditions := r.conditions, lostCount := r.lostCount, attention := r.attention } ∧
          (r.attention = true ↔
            (∃ x ∈ r.urgent ++ r.routine, KindSet.has r.attentionMask x.body.kind = true) ∨
              r.conditions ≠ ⟨false, false, false⟩)) ∧
    (Open s p → 8 ≤ b.toNat → Refuses (.ackConditions p) s p tag .badArg)

/-- A notice that arrives at a full queue takes its number, and one notice is lost: an urgent arrival displaces the oldest
routine notice, if there is one, and any other arrival is dropped; the lost count rises and NOTICE_LOSS is set. One that
finds room joins the tail of its class. Either way the attention output is settled, and the maps and the other conditions
stand. One addressed to a closed session changes nothing, and none changes anything but its host's record. -/
def Obligations.NoticeArrivalFillsDisplacesOrDrops : Prop :=
  ∀ (s : State) (h : HostId) (stamp : Time) (body : NoticeBody),
    ((s.session h).isOpen = false → s.notifyAt h stamp body = s) ∧
    s.notifyAt h stamp body = { s with notices := (s.notifyAt h stamp body).notices } ∧
    (∀ k, k ≠ h → (s.notifyAt h stamp body).noticeRec k = s.noticeRec k) ∧
    (Open s h →
      ∃ n : Notice, n.number = (s.noticeRec h).nextNumber ∧ n.stamp = stamp ∧ n.body = body ∧
        n.urgent = KindSet.has (s.noticeRec h).urgencyMap body.kind ∧
        ((s.notifyAt h stamp body).noticeRec h).nextNumber = (s.noticeRec h).nextNumber + 1 ∧
        (∀ r, r = (s.notifyAt h stamp body).noticeRec h →
          r.urgencyMap = (s.noticeRec h).urgencyMap ∧ r.attentionMask = (s.noticeRec h).attentionMask ∧
            r.conditions.tbAlert = (s.noticeRec h).conditions.tbAlert ∧
            r.conditions.frameError = (s.noticeRec h).conditions.frameError ∧
            (r.attention = true ↔
              (∃ x ∈ r.urgent ++ r.routine, KindSet.has r.attentionMask x.body.kind = true) ∨
                r.conditions ≠ ⟨false, false, false⟩)) ∧
        ((s.noticeRec h).held.length < 32 →
          ((s.notifyAt h stamp body).noticeRec h).conditions = (s.noticeRec h).conditions ∧
          ((s.notifyAt h stamp body).noticeRec h).urgent =
              (if n.urgent then (s.noticeRec h).urgent ++ [n] else (s.noticeRec h).urgent) ∧
            ((s.notifyAt h stamp body).noticeRec h).routine =
              (if n.urgent then (s.noticeRec h).routine else (s.noticeRec h).routine ++ [n]) ∧
            ((s.notifyAt h stamp body).noticeRec h).lostCount = (s.noticeRec h).lostCount) ∧
        ((s.noticeRec h).held.length = 32 →
          (∀ oldest rest, n.urgent = true → (s.noticeRec h).routine = oldest :: rest →
            ((s.notifyAt h stamp body).noticeRec h).urgent = (s.noticeRec h).urgent ++ [n] ∧
              ((s.notifyAt h stamp body).noticeRec h).routine = rest) ∧
          (n.urgent = false ∨ (s.noticeRec h).routine = [] →
            ((s.notifyAt h stamp body).noticeRec h).urgent = (s.noticeRec h).urgent ∧
              ((s.notifyAt h stamp body).noticeRec h).routine = (s.noticeRec h).routine) ∧
          ((s.notifyAt h stamp body).noticeRec h).conditions.noticeLoss = true ∧
          ((s.notifyAt h stamp body).noticeRec h).lostCount = min ((s.noticeRec h).lostCount + 1) 255))

/-! ## Timebase: requests -/

/-- TB_HOLD grants a free hold, is refused with ALREADY to the holder, with HELD and the holding host to any other, and with
NO_SESSION to a host with no open session; it changes nothing else. The layouts of the OK and HELD replies are the reading
of log entry 5, and the PREV_UNREAD flag of a reply in a closed session that of log entry 21. -/
def Obligations.TbHoldGrantsOnlyAFreeHold : Prop :=
  ∀ (s : State) (p : HostId) (tag : Byte), HoldsRequest s p 16 tag [] →
    ((s.session p).isOpen = false → Refuses (.tbHold p) s p tag .noSession) ∧
    (Open s p → s.tb.holder = none →
      exec (.tbHold p) s =
        .next (((arrived s p).setTb { s.tb with holder := some p }).placeReply p tag .ok [s.tb.mode.code])) ∧
    (Open s p → s.tb.holder = some p → Refuses (.tbHold p) s p tag .already) ∧
    ∀ k, k ≠ p → Open s p → s.tb.holder = some k →
      exec (.tbHold p) s = .next ((arrived s p).placeReply p tag .held [HostId.code k])

/-- TB_RELEASE gives up the hold. A staged length and a pending stop of a RUNNING timebase go with it: the entries of later
frames that do not fit the length in effect are evicted, each owner being told, and then the host that released and the
watchers are sent TB_STATE with cause DISCARD; that the EVICTED notices come before it is the reading of log entry 10. Every
other item of the record stands. -/
def Obligations.TbReleaseGivesUpTheHold : Prop :=
  ∀ (s : State) (p : HostId) (tag : Byte), HoldsRequest s p 17 tag [] → Open s p → ScheduleInRoom s →
    (s.tb.holder ≠ some p → exec (.tbRelease p) s = .next ((arrived s p).placeReply p tag .notHolder [])) ∧
    (s.tb.holder = some p → (s.tb.mode ≠ .running ∨ s.tb.staged = none ∧ s.tb.pendingStop = false) →
      exec (.tbRelease p) s = .next (((arrived s p).setTb { s.tb with holder := none }).placeReply p tag .ok [])) ∧
    (s.tb.holder = some p → s.tb.mode = .running → Planned s →
      ∃ t, exec (.tbRelease p) s = .next t ∧
        t.tb = { s.tb with holder := none, staged := none, pendingStop := false } ∧
        t.entries = s.entries.filter (fun e => !lapses s e) ∧
        SlotsFollow s t ∧ t.lines = s.lines ∧ t.claims = s.claims ∧ t.channels = s.channels ∧ t.reflexes = s.reflexes ∧
        Elsewhere s t p ∧ Answers t p tag .ok [] ∧
        ∀ h, Receives s t h
          (removalNews s h (lapses s) (.evicted · .frameLength) ++ timebaseNews s h s.tb.now (.tbState .running .discard)))

/-- TB_START from HALTED or REF_LOST with the reference present starts the timebase: RESUME keeps the time and the entries;
RESTART sets frame 0, phase 0, evicts the one-shot entries and keeps the lead of every recurring one. With the reference
absent it is refused with NO_REF. While a stop is pending, RESUME cancels the stop. Either is told to the holder and the
watchers with TB_STATE, cause START, behind the EVICTED notices of a restart. A host that does not hold the timebase is refused
with NOT_HOLDER. -/
def Obligations.TbStartStartsTheTimebase : Prop :=
  ∀ (s : State) (p : HostId) (tag mode source r1 r0 : Byte) (onSync restart : Bool),
    HoldsRequest s p 18 tag [mode, source, r1, r0] → Open s p → boolOf mode = some onSync → boolOf source = some restart →
      (s.tb.holder ≠ some p → Refuses (.tbStart p) s p tag .notHolder) ∧
      (s.tb.holder = some p → ScheduleInRoom s →
        ((s.tb.mode = .halted ∨ s.tb.mode = .refLost) → s.tb.monitor.verdict = .present →
          ∃ t, exec (.tbStart p) s = .next t ∧
            t.tb =
              { s.tb with
                now := if restart then ⟨0, 0⟩ else s.tb.now
                runLimit := number2 r1 r0, lock := .searching, missCount := 0, prevMissed := false
                mode := if onSync then .awaitingSync else .running
                divider := if onSync then s.tb.divider else 0 } ∧
            t.entries =
              (if restart then
                (s.entries.filter fun e => e.recurrence.isSome).map fun e =>
                  { e with due := ⟨BitVec.ofNat 16 (s.leadIn e), e.due.phase⟩ }
               else s.entries) ∧
            SlotsFollow s t ∧ t.lines = s.lines ∧ t.claims = s.claims ∧ t.channels = s.channels ∧ t.reflexes = s.reflexes ∧
            Elsewhere s t p ∧ Answers t p tag .ok [] ∧
            ∀ h, Receives s t h
              ((if restart then removalNews s h (fun e => e.recurrence.isNone) (.evicted · .restart) else []) ++
                timebaseNews s h s.tb.now (.tbState (if onSync then .awaitingSync else .running) .start))) ∧
        ((s.tb.mode = .halted ∨ s.tb.mode = .refLost) → s.tb.monitor.verdict = .absent →
          exec (.tbStart p) s = .next ((arrived s p).placeReply p tag .noRef [])) ∧
        (s.tb.mode = .running → s.tb.pendingStop = true → restart = false →
          ∃ t, exec (.tbStart p) s = .next t ∧ t.tb = { s.tb with pendingStop := false, runLimit := number2 r1 r0 } ∧
            t.entries = s.entries ∧ t.uses = s.uses ∧ t.lines = s.lines ∧ t.claims = s.claims ∧ t.channels = s.channels ∧
            t.reflexes = s.reflexes ∧ Elsewhere s t p ∧ Answers t p tag .ok [] ∧
            ∀ h, Receives s t h (timebaseNews s h s.tb.now (.tbState .running .start))) ∧
        ((s.tb.mode = .awaitingSync ∨ s.tb.mode = .running ∧ (s.tb.pendingStop = false ∨ restart = true)) →
          exec (.tbStart p) s = .next ((arrived s p).placeReply p tag .state [])))

/-- TB_STOP from the holder: NOW halts a RUNNING timebase at the time reached, discarding a staged length (with the later
entries that then do not fit) and a pending stop; AT_WRAP sets the pending stop; a timebase that waits or has lost its
reference becomes HALTED; a HALTED one refuses with STATE. A halt is told to the holder and the watchers with TB_STATE, cause
STOP; the EVICTED notices of a discard come before it or behind it (log entry 2), and its DISCARD behind both, behind the
EVICTED notices by the reading of log entry 10. A host that does not hold the timebase is refused with NOT_HOLDER. -/
def Obligations.TbStopHaltsTheTimebase : Prop :=
  ∀ (s : State) (p : HostId) (tag option : Byte) (atWrap : Bool),
    HoldsRequest s p 19 tag [option] → Open s p → boolOf option = some atWrap →
      (s.tb.holder ≠ some p → Refuses (.tbStop p) s p tag .notHolder) ∧
      (s.tb.holder = some p → ScheduleInRoom s →
        (s.tb.mode = .halted → exec (.tbStop p) s = .next ((arrived s p).placeReply p tag .state [])) ∧
        ((s.tb.mode = .awaitingSync ∨ s.tb.mode = .refLost) →
          ∃ t, exec (.tbStop p) s = .next t ∧ t.tb = { s.tb with mode := .halted } ∧ t.entries = s.entries ∧ t.uses = s.uses ∧
            t.lines = s.lines ∧ t.claims = s.claims ∧ t.channels = s.channels ∧ t.reflexes = s.reflexes ∧ Elsewhere s t p ∧
            Answers t p tag .ok [] ∧ ∀ h, Receives s t h (timebaseNews s h s.tb.now (.tbState .halted .stop))) ∧
        (s.tb.mode = .running → atWrap = true →
          exec (.tbStop p) s =
            .next (((arrived s p).setTb { s.tb with pendingStop := true }).placeReply p tag .ok [])) ∧
        (s.tb.mode = .running → atWrap = false →
          ∃ t, exec (.tbStop p) s = .next t ∧
            t.tb = { s.tb with mode := .halted, divider := 0, staged := none, pendingStop := false } ∧
            t.entries = s.entries.filter (fun e => !lapses s e) ∧
            SlotsFollow s t ∧ t.lines = s.lines ∧ t.claims = s.claims ∧ t.channels = s.channels ∧ t.reflexes = s.reflexes ∧
            Elsewhere s t p ∧ Answers t p tag .ok [] ∧
            ∀ evicted stopped discarded : HostId → List (Time × NoticeBody),
              (evicted = fun h => removalNews s h (lapses s) (.evicted · .frameLength)) →
              (stopped = fun h => timebaseNews s h s.tb.now (.tbState .halted .stop)) →
              (discarded = fun h => if Planned s then timebaseNews s h s.tb.now (.tbState .halted .discard) else []) →
                (∀ h, Receives s t h (evicted h ++ stopped h ++ discarded h)) ∨
                  ∀ h, Receives s t h (stopped h ++ evicted h ++ discarded h)))

/-- TB_SET_FRAME from the holder: outside RUNNING a length that the phase fits below takes effect at once and every entry at
or above it is evicted; one that the phase does not fit below is refused with PHASE_RANGE; while RUNNING the length is
staged, and the entries of later frames at or above it are evicted. Each eviction is told to its owner, and then a length that
takes effect at once to the holder and the watchers. A length below 64 is refused first. The item of the STAGED reply is the
reading of log entry 5. -/
def Obligations.TbSetFrameAppliesOrStagesTheLength : Prop :=
  ∀ (s : State) (p : HostId) (tag b2 b1 b0 : Byte) (n : Nat),
    HoldsRequest s p 20 tag [b2, b1, b0] → Open s p → n = lengthOf b2 b1 b0 → ScheduleInRoom s →
      (n < 64 → exec (.tbSetFrame p) s = .next ((arrived s p).placeReply p tag .badArg [])) ∧
      (64 ≤ n → s.tb.holder ≠ some p → exec (.tbSetFrame p) s = .next ((arrived s p).placeReply p tag .notHolder [])) ∧
      (64 ≤ n → s.tb.holder = some p → s.tb.mode ≠ .running → n ≤ s.tb.now.phase →
        exec (.tbSetFrame p) s = .next ((arrived s p).placeReply p tag .phaseRange [])) ∧
      (64 ≤ n → s.tb.holder = some p → s.tb.mode ≠ .running → s.tb.now.phase < n →
        ∃ t, exec (.tbSetFrame p) s = .next t ∧ t.tb = { s.tb with length := n } ∧
          t.entries = s.entries.filter (fun e => decide (e.due.phase < n)) ∧ SlotsFollow s t ∧
          t.lines = s.lines ∧ t.claims = s.claims ∧ t.channels = s.channels ∧ t.reflexes = s.reflexes ∧
          Elsewhere s t p ∧ Answers t p tag .ok [] ∧
          ∀ h, Receives s t h
            (removalNews s h (fun e => decide (n ≤ e.due.phase)) (.evicted · .frameLength) ++
              timebaseNews s h s.tb.now (.tbFrame n))) ∧
      (64 ≤ n → s.tb.holder = some p → s.tb.mode = .running →
        ∃ t, exec (.tbSetFrame p) s = .next t ∧ t.tb = { s.tb with staged := some n } ∧
          t.entries = s.entries.filter (fun e => decide (s.leadIn e = 0 ∨ e.due.phase < n)) ∧ SlotsFollow s t ∧
          t.lines = s.lines ∧ t.claims = s.claims ∧ t.channels = s.channels ∧ t.reflexes = s.reflexes ∧
          Elsewhere s t p ∧ Answers t p tag .staged [flagByte s.tb.staged.isSome] ∧
          ∀ h, Receives s t h
            (removalNews s h (fun e => decide (0 < s.leadIn e) && decide (n ≤ e.due.phase)) (.evicted · .frameLength)))

/-- TB_SET_SYNC from the holder records mode and window and gives up the lock; a window above a quarter of the length in
effect is refused. TB_SET_PRESCALE from the holder records the prescale (every byte names one, 0 for 256) in HALTED and
REF_LOST, and is refused with STATE otherwise; from any other host it is refused with NOT_HOLDER. -/
def Obligations.TbSetSyncAndPrescaleRecordTheirValues : Prop :=
  ∀ (s : State) (p : HostId) (tag : Byte), Open s p →
    (∀ (b w2 w1 w0 : Byte) (m : SyncMode), HoldsRequest s p 21 tag [b, w2, w1, w0] → syncModeOf b = some m →
      (s.tb.length / 4 < number3 w2 w1 w0 → exec (.tbSetSync p) s = .next ((arrived s p).placeReply p tag .badArg [])) ∧
      (number3 w2 w1 w0 ≤ s.tb.length / 4 → s.tb.holder ≠ some p →
        exec (.tbSetSync p) s = .next ((arrived s p).placeReply p tag .notHolder [])) ∧
      (number3 w2 w1 w0 ≤ s.tb.length / 4 → s.tb.holder = some p →
        exec (.tbSetSync p) s =
          .next (((arrived s p).setTb
              { s.tb with
                syncMode := m, window := number3 w2 w1 w0, lock := .searching, missCount := 0,
                prevMissed := false }).placeReply p tag .ok []))) ∧
    (∀ b : Byte, HoldsRequest s p 22 tag [b] →
      (s.tb.holder ≠ some p → exec (.tbSetPrescale p) s = .next ((arrived s p).placeReply p tag .notHolder [])) ∧
      (s.tb.holder = some p → (s.tb.mode = .halted ∨ s.tb.mode = .refLost) →
        exec (.tbSetPrescale p) s =
          .next (((arrived s p).setTb { s.tb with prescale := if b = 0 then 256 else b.toNat }).placeReply p tag .ok [])) ∧
      (s.tb.holder = some p → (s.tb.mode = .awaitingSync ∨ s.tb.mode = .running) →
        exec (.tbSetPrescale p) s = .next ((arrived s p).placeReply p tag .state [])))

/-- READ_TIME returns the current frame and phase, the timebase state and the length in effect, in every timebase state and
whether or not a session is open, and changes nothing of the timebase. Outside RUNNING none of TICK, REFCLK_CYCLE,
NATURAL_WRAP, RUN_LIMIT and SYNC_LOST moves the time that it returns; what these rows but REFCLK_CYCLE do there is the model's
choice (log entries 3 and 6), and the PREV_UNREAD flag of a reply in a closed session is the reading of log entry 21. -/
def Obligations.ReadTimeReportsTheCurrentTime : Prop :=
  ∀ (s : State) (p : HostId) (tag : Byte),
    (HoldsRequest s p 23 tag [] →
      exec (.readTime p) s =
        .next ((arrived s p).placeReply p tag .ok
          (bytes2 s.tb.now.frame.toNat ++ bytes3 s.tb.now.phase ++ [s.tb.mode.code] ++ bytes3 s.tb.length))) ∧
    (s.tb.mode ≠ .running →
      ∀ c : Instr, c = .tick ∨ c = .refclkCycle ∨ c = .naturalWrap ∨ c = .runLimit ∨ c = .syncLost →
        ∃ t, exec c s = .next t ∧ t.tb.now = s.tb.now ∧ t.tb.mode = s.tb.mode ∧ t.tb.length = s.tb.length)

/-! ## Timebase: clock and pins -/

/-- A TICK of a RUNNING timebase, before the last phase of the frame, advances the phase by 1, returns the divider count to 0,
shows the monitor an edge, and changes nothing else of the timebase; the claims, the sessions, the ports and the queue stand.
A TICK stands for the REFCLK cycles that bring it, by the model's choice (log entry 6). -/
def Obligations.TickAdvancesThePhase : Prop :=
  ∀ s : State, s.tb.mode = .running → TimebaseInRange s → s.tb.now.phase + 1 < s.tb.length →
    ∃ t, exec .tick s = .next t ∧
      t.tb =
        { s.tb with
          now := ⟨s.tb.now.frame, s.tb.now.phase + 1⟩, divider := 0, monitor := { s.tb.monitor with edgeSeen := true } } ∧
      t.claims = s.claims ∧ t.sessions = s.sessions ∧ t.ports = s.ports ∧ t.pending = s.pending

/-- A tick before the last phase, one REFCLK cycle away, at which no filter accepts a level: the phase advances by 1, every
filter takes its sample, and every pulse of a claimed line counts down, the last tick of one returning its line to the idle
level. Then the entries due at the time reached fire: those on one line as one group, in list order, by the line's claim, and
each is concluded in list order; none stays due at that time. PULSE_END is that tick where it ends the named line's pulse.
Where the tick takes the third sample of a level on one channel with the TICK filter, that level is settled and its edge is
taken at the time the tick reaches: ignored, counted, or captured, told to every subscriber where no entry falls due and no
reflex answers it. What TICK and PULSE_END stand for, and that CAPTURE stands for that tick, is the model's choice (log entries
6 and 9). -/
def Obligations.QuietTickCountsPulsesAndSamples : Prop :=
  (∀ (s : State) (k : ChannelId) (next : Time), s.tb.mode = .running → s.tb.prescale ≤ s.tb.divider + 1 →
    s.tb.now.phase + 1 < s.tb.length → next = ⟨s.tb.now.frame, s.tb.now.phase + 1⟩ →
    (s.channel k).filter = .tick → (s.channel k).pin ≠ (s.channel k).settled → (s.channel k).filterCount = 2 →
    (∀ d : ChannelId, d ≠ k → (s.channel d).filter ≠ .off → (s.channel d).pin ≠ (s.channel d).settled →
      (s.channel d).filterCount < 2) →
      ∃ t, exec .tick s = .next t ∧
        t.tb = { s.tb with now := next, divider := 0, monitor := { s.tb.monitor with edgeSeen := true } } ∧
        t.claims = s.claims ∧ t.sessions = s.sessions ∧ t.ports = s.ports ∧ t.pending = s.pending ∧
        ((∀ e ∈ s.entries, e.due = next → e.deed.rearms ≠ some k) → EdgeSettled s t k next) ∧
        (dueAt s next = [] →
          (∀ l : LineId, t.line l = if (s.claim l).state = .free then s.line l else pulseTicked (s.line l)) ∧
          (∀ d : ChannelId, d ≠ k → t.channel d =
            if (s.channel d).filter = .off then s.channel d
            else
              { s.channel d with
                filterCount := if (s.channel d).pin = (s.channel d).settled then 0 else (s.channel d).filterCount + 1 }) ∧
          (s.reflex k = none → t.entries = s.entries ∧ t.uses = s.uses ∧ EdgeTold s t k next))) ∧
  ∀ (s : State) (c : Instr) (quiet : State) (due : List Entry),
    s.tb.mode = .running → s.tb.prescale ≤ s.tb.divider + 1 → s.tb.now.phase + 1 < s.tb.length →
      (∀ k : ChannelId, (s.channel k).filter ≠ .off → (s.channel k).pin ≠ (s.channel k).settled →
        (s.channel k).filterCount < 2) →
      (c = .tick ∨ ∃ l : LineId, c = .pulseEnd l.val ∧ (s.line l).pulse = some 1 ∧ (s.claim l).state ≠ .free) →
      quiet =
          ((s.setTb
              { s.tb with
                now := ⟨s.tb.now.frame, s.tb.now.phase + 1⟩, divider := 0,
                monitor := { s.tb.monitor with edgeSeen := true } }).mapChannels (fun _ r =>
              if r.filter = .off then r
              else { r with filterCount := if r.pin = r.settled then 0 else r.filterCount + 1 })).mapLines
            (fun l r => if (s.claim l).state = .free then r else pulseTicked r) →
      due = dueAt s ⟨s.tb.now.frame, s.tb.now.phase + 1⟩ →
        (due = [] → exec c s = .next quiet) ∧
        ∃ t, exec c s = .next t ∧
          t = due.foldl (fun u e => u.conclude false e) { quiet with lines := t.lines } ∧
          (∀ l : LineId, t.line l = grouped (quiet.line l) (s.claim l) (groupOn l due)) ∧
          t.tb = quiet.tb ∧ t.claims = s.claims ∧ t.sessions = s.sessions ∧ t.ports = s.ports ∧ t.pending = s.pending ∧
          (ScheduleInRoom s → RecurrencesInRange s →
            SlotsFollow s t ∧ ∀ e ∈ t.entries, e.due ≠ ⟨s.tb.now.frame, s.tb.now.phase + 1⟩)

/-- The natural wrap begins the next frame at phase 0: a staged length takes effect, the run limit falls, a miss is counted,
and the timebase halts when a stop was pending or the limit reached 0. TICK is this wrap at the last phase; RUN_LIMIT and
SYNC_LOST are it where the limit is reached, a stop being pending or not, or where it is the third consecutive miss, which
alerts every open session. Where it is one REFCLK cycle away and no sample completes, each claimed line counts its pulse down,
then returns to its idle level if frame-return is on, and then takes the group of the entries due at phase 0 of the new frame,
of which none stays; where none is due, the holder and the watchers are sent, in this order, TB_FRAME for a length that takes
effect, SYNC_EVENT LOST, and TB_STATE with the cause of a halt, a pending stop before the run limit. What these rows stand for
is the model's choice (log entry 6). -/
def Obligations.NaturalWrapBeginsTheNextFrame : Prop :=
  ∀ s : State, s.tb.mode = .running → TimebaseInRange s → MissesBelowLoss s → s.tb.now.phase + 1 = s.tb.length →
    ∃ t, exec .naturalWrap s = .next t ∧ exec .tick s = .next t ∧
      t.tb.now = ⟨s.tb.now.frame + 1, 0⟩ ∧ t.tb.length = s.tb.staged.getD s.tb.length ∧ t.tb.staged = none ∧
      t.tb.runLimit = s.tb.runLimit - 1 ∧ t.tb.pendingStop = false ∧
      t.tb.mode = (if s.tb.pendingStop = true ∨ s.tb.runLimit = 1 then .halted else .running) ∧
      t.claims = s.claims ∧ t.sessions = s.sessions ∧ t.ports = s.ports ∧
      (s.tb.syncMode = .align → s.tb.lock = .locked →
        t.tb.prevMissed = true ∧ t.tb.missCount = s.tb.missCount + 1 ∧
          t.tb.lock = (if s.tb.missCount = 2 then .lost else .locked)) ∧
      ((s.tb.syncMode ≠ .align ∨ s.tb.lock ≠ .locked) →
        t.tb.prevMissed = false ∧ t.tb.missCount = s.tb.missCount ∧ t.tb.lock = s.tb.lock) ∧
      (s.tb.runLimit = 1 → exec .runLimit s = .next t) ∧
      (s.tb.syncMode = .align → s.tb.lock = .locked → s.tb.missCount = 2 →
        exec .syncLost s = .next t ∧ ∀ h, Open s h → (t.noticeRec h).conditions.tbAlert = true) ∧
      (s.tb.prescale ≤ s.tb.divider + 1 →
        (∀ k : ChannelId, (s.channel k).filter ≠ .off → (s.channel k).pin ≠ (s.channel k).settled →
          (s.channel k).filterCount < 2) →
        ((∀ e ∈ s.entries, e.due ≠ ⟨s.tb.now.frame + 1, 0⟩) →
          t.entries = s.entries ∧ t.uses = s.uses ∧
            (∀ l : LineId, (s.claim l).state ≠ .free → (s.line l).settings.frameReturn = true →
              t.line l = { s.line l with level := (s.line l).settings.idle, pulse := none }) ∧
            ∀ (h : HostId) (lost : Bool),
              (lost = true ↔ s.tb.syncMode = .align ∧ s.tb.lock = .locked ∧ s.tb.missCount = 2) →
                Receives (if lost then s.alertAll else s) t h
                  (wrapNews s h (if lost then [.syncEvent .lost 3] else []))) ∧
        (∀ l : LineId,
          t.line l =
            grouped (if (s.claim l).state = .free then s.line l else returned (pulseTicked (s.line l))) (s.claim l)
              (groupOn l (dueAt s ⟨s.tb.now.frame + 1, 0⟩))) ∧
        (ScheduleInRoom s → RecurrencesInRange s →
          SlotsFollow s t ∧ ∀ e ∈ t.entries, e.due ≠ ⟨s.tb.now.frame + 1, 0⟩))

/-- A SYNC edge starts a waiting timebase, is ignored where no state takes it, sets back the phase when it is late, and
otherwise ends the frame at once: phase 0 of the next frame, LOCKED, HALTED when a stop was pending or the run limit is
reached, with no entry of the ended frame left. The overtaken entries are dealt with in list order: FIRE_LATE ones fire late,
those on one line as one group, and DROP ones expire. Then a claimed line with frame-return on returns to its idle level, and
the entries due at phase 0 of the new frame fire, of which none stays. The start is told to the holder and the watchers, after
SYNC_EVENT LOCKED where the mode is ALIGN; an acquiring or early edge is told to them with SYNC_EVENT, and where no entry is
overtaken or due, a length that takes effect and a halt follow it. -/
def Obligations.SyncEdgeStartsSetsBackOrAligns : Prop :=
  ∀ s : State, ScheduleInRoom s → RecurrencesInRange s →
    (s.tb.mode = .awaitingSync →
      ∃ t, exec .syncEdge s = .next t ∧
        t.tb =
          { s.tb with mode := .running, divider := 0, lock := if s.tb.syncMode = .align then .locked else s.tb.lock } ∧
        t.entries = s.entries ∧ t.uses = s.uses ∧ t.lines = s.lines ∧ t.claims = s.claims ∧ t.channels = s.channels ∧
        t.reflexes = s.reflexes ∧ t.sessions = s.sessions ∧ t.ports = s.ports ∧
        ∀ h, Receives s t h
          ((if s.tb.syncMode = .align then timebaseNews s h s.tb.now (.syncEvent .locked s.tb.missCount) else []) ++
            timebaseNews s h s.tb.now (.tbState .running .start))) ∧
    ((s.tb.mode = .halted ∨ s.tb.mode = .refLost ∨ s.tb.mode = .running ∧ s.tb.syncMode = .none) →
      exec .syncEdge s = .next s) ∧
    (s.tb.mode = .running → s.tb.syncMode = .align →
      (s.tb.lock = .locked → s.tb.now.phase < min s.tb.window (s.tb.length / 4) → s.tb.prevMissed = true →
        s.tb.now.phase < s.tb.length - min s.tb.window (s.tb.length / 4) →
        exec .syncEdge s =
          .next (s.setTb
            { s.tb with now := ⟨s.tb.now.frame, 0⟩, missCount := 0, prevMissed := false })) ∧
      ((s.tb.lock ≠ .locked ∨ min s.tb.window (s.tb.length / 4) ≤ s.tb.now.phase ∨ s.tb.prevMissed = false ∨
          s.tb.length - min s.tb.window (s.tb.length / 4) ≤ s.tb.now.phase) →
        ∃ t, exec .syncEdge s = .next t ∧ t.tb.now = ⟨s.tb.now.frame + 1, 0⟩ ∧ t.tb.lock = .locked ∧
          t.tb.prevMissed = false ∧ t.tb.length = s.tb.staged.getD s.tb.length ∧ t.tb.staged = none ∧
          t.tb.runLimit = s.tb.runLimit - 1 ∧ t.tb.pendingStop = false ∧
          t.tb.mode = (if s.tb.pendingStop = true ∨ s.tb.runLimit = 1 then .halted else .running) ∧
          t.tb.missCount =
            (if s.tb.lock = .locked ∧ s.tb.now.phase < s.tb.length - min s.tb.window (s.tb.length / 4) then s.tb.missCount
             else 0) ∧
          t.claims = s.claims ∧ t.sessions = s.sessions ∧ t.ports = s.ports ∧
          (∀ e ∈ t.entries, e.due.frame ≠ s.tb.now.frame ∧ e.due ≠ ⟨s.tb.now.frame + 1, 0⟩) ∧ SlotsFollow s t ∧
          ∀ gone late due, gone = s.entries.filter (fun e => decide (e.due.frame = s.tb.now.frame)) →
            late = gone.filter (fun e => decide (e.late = .fireLate)) → due = dueAt s.overtake ⟨s.tb.now.frame + 1, 0⟩ →
              s.overtake =
                gone.foldl
                  (fun u e => match e.late with
                    | .fireLate => u.conclude true e
                    | .drop => u.expire e)
                  (s.mapLines fun l r => grouped r (s.claim l) (groupOn l late)) ∧
              (∀ l : LineId,
                t.line l =
                  grouped
                    (if (s.claim l).state = .free then s.line l
                     else returned (grouped (s.line l) (s.claim l) (groupOn l late)))
                    (s.claim l) (groupOn l due)) ∧
              (due = [] → t.entries = s.overtake.entries ∧ t.uses = s.overtake.uses) ∧
              (gone = [] → due = [] → ∀ h, Receives s t h
                ((if s.tb.lock ≠ .locked then timebaseNews s h s.tb.now (.syncEvent .locked 0)
                  else if s.tb.now.phase < s.tb.length - min s.tb.window (s.tb.length / 4) then
                    timebaseNews s h s.tb.now (.syncEvent .early s.tb.missCount)
                  else []) ++ wrapNews s h []))))

/-- The end of the fourth housekeeping period in a row without a REFCLK edge is the ABSENT declaration of a monitor in PRESENT: it
freezes the time in REF_LOST, discards a staged length and a pending stop, alerts every open session, tells the owners of
evicted entries, and then the holder and the watchers, with TB_STATE, cause REF_LOST, and a DISCARD behind it, and holds every
claimed line with a safe level at that level. The end of the second in a row with an edge is the PRESENT declaration of a
monitor in ABSENT: it changes the monitor and nothing else, and tells its return with TB_STATE, the state as it stands and
cause REF_BACK. That REF_LOST and REF_BACK are these events, and change nothing where the monitor has no declaration to make, is
the model's choice (log entries 3 and 7); that the counts start from 0 behind a declaration is the reading of log entry 13, and
that the EVICTED notices come before the DISCARD that of log entry 10; that there is no declaration while RESET_N is low is the
model's choice (log entry 17). -/
def Obligations.MonitorDeclaresAbsentOrPresent : Prop :=
  ∀ s : State, ScheduleInRoom s →
    ((s.resetN = false ∨ s.tb.monitor.verdict = .absent ∨ s.tb.monitor.edgeSeen = true ∨ s.tb.monitor.withoutEdge < 3) →
      exec .refLost s = .next s) ∧
    (s.resetN = true → s.tb.monitor.verdict = .present → s.tb.monitor.edgeSeen = false → 3 ≤ s.tb.monitor.withoutEdge →
      ∃ t, exec .refLost s = .next t ∧
        t.tb =
          { s.tb with
            mode := .refLost, divider := 0, staged := none, pendingStop := false
            monitor := { verdict := .absent, withoutEdge := 0, withEdge := 0, edgeSeen := false } } ∧
        t.entries = s.entries.filter (fun e => !lapses s e) ∧
        (∀ h, Open s h → (t.noticeRec h).conditions.tbAlert = true) ∧
        (∀ h, Receives s.alertAll t h
          (removalNews s h (lapses s) (.evicted · .frameLength) ++
            timebaseNews s h s.tb.now (.tbState .refLost .refLost) ++
            (if Planned s then timebaseNews s h s.tb.now (.tbState .refLost .discard) else []))) ∧
        (∀ (l : LineId) (v : Level), (s.claim l).state ≠ .free → (s.line l).settings.safe = some v →
          t.line l = { s.line l with output := .held, heldLevel := v } ∧ t.pin l = some v) ∧
        (∀ l : LineId, ((s.claim l).state = .free ∨ (s.line l).settings.safe = none) → t.line l = s.line l) ∧
        SlotsFollow s t ∧ t.claims = s.claims ∧ t.channels = s.channels ∧ t.reflexes = s.reflexes ∧ t.sessions = s.sessions ∧
        t.ports = s.ports) ∧
    ((s.resetN = false ∨ s.tb.monitor.verdict = .present ∨ s.tb.monitor.edgeSeen = false ∨ s.tb.monitor.withEdge = 0) →
      exec .refBack s = .next s) ∧
    (s.resetN = true → s.tb.monitor.verdict = .absent → s.tb.monitor.edgeSeen = true → 1 ≤ s.tb.monitor.withEdge →
      ∃ t, exec .refBack s = .next t ∧
        t.tb =
          { s.tb with monitor := { verdict := .present, withoutEdge := 0, withEdge := 0, edgeSeen := false } } ∧
        (∀ h, Receives s t h (timebaseNews s h s.tb.now (.tbState s.tb.mode .refBack))) ∧
        t.entries = s.entries ∧ t.uses = s.uses ∧ t.lines = s.lines ∧ t.claims = s.claims ∧ t.channels = s.channels ∧
        t.reflexes = s.reflexes ∧ t.sessions = s.sessions ∧ t.ports = s.ports)

/-- A REFCLK cycle that completes no tick and no filtered edge counts the divider, in RUNNING only, shows the monitor an
edge, and gives every REFCLK filter one sample. Where it is the third sample of a level on one channel, that level is settled
and its edge is taken: ignored, counted, or captured, and told to every subscriber where no reflex answers it. The cycle that
completes the divider count, at a prescale of 1 every cycle in RUNNING, is a tick: it does what TICK then does. What CAPTURE and
TICK stand for is the model's choice (log entries 9 and 6), and so is that a cycle counts nothing while RESET_N is low (log
entry 17). -/
def Obligations.RefclkCycleCountsAndSamples : Prop :=
  ∀ s : State, (s.resetN = false → exec .refclkCycle s = .next s) ∧
    (s.resetN = true → s.tb.mode = .running → s.tb.prescale ≤ s.tb.divider + 1 → exec .refclkCycle s = exec .tick s) ∧
    (s.resetN = true → (s.tb.mode ≠ .running ∨ s.tb.divider + 1 < s.tb.prescale) →
      ((∀ k : ChannelId, (s.channel k).filter = .refclk → (s.channel k).pin ≠ (s.channel k).settled →
          (s.channel k).filterCount < 2) →
        exec .refclkCycle s =
          .next ((s.setTb
              { s.tb with
                divider := if s.tb.mode = .running then s.tb.divider + 1 else s.tb.divider
                monitor := { s.tb.monitor with edgeSeen := true } }).mapChannels fun _ r =>
              if r.filter = .refclk then
                { r with filterCount := if r.pin = r.settled then 0 else r.filterCount + 1 }
              else r)) ∧
      ∀ c : ChannelId, (s.channel c).filter = .refclk → (s.channel c).pin ≠ (s.channel c).settled →
        (s.channel c).filterCount = 2 →
        (∀ k : ChannelId, k ≠ c → (s.channel k).filter = .refclk → (s.channel k).pin ≠ (s.channel k).settled →
          (s.channel k).filterCount < 2) →
          ∃ t, exec .refclkCycle s = .next t ∧
            t.tb =
              { s.tb with
                divider := if s.tb.mode = .running then s.tb.divider + 1 else s.tb.divider
                monitor := { s.tb.monitor with edgeSeen := true } } ∧
            EdgeSettled s t c s.tb.now ∧ (s.reflex c = none → EdgeTold s t c s.tb.now))

/-! ## The schedule -/

/-- A SCHEDULE whose fields decode, whose target the requester holds or subscribes to, and whose due time is later than now,
within the horizon, below its governing length and not colliding, joins the list in the lowest free slot, behind the entries
due no later; the reply carries its handle. -/
def Obligations.ScheduleJoinsALaterDueTime : Prop :=
  ∀ (s : State) (p : HostId) (tag action target f1 f0 p2 p1 p0 w1 w0 present period r1 r0 group late notify : Byte)
    (deed : Deed) (recurrence : Option Recurrence) (g : Fin 16) (policy : LatePolicy) (tells : Bool) (due : Time),
    HoldsRequest s p 32 tag [action, target, f1, f0, p2, p1, p0, w1, w0, present, period, r1, r0, group, late, notify] →
      Open s p → deedOf action target (number2 w1 w0) = some deed →
      recurrenceOf present period (number2 r1 r0) = some recurrence → tagOf group = some g → latePolicyOf late = some policy →
      notifyOf (decide (deed = .mark)) notify = some tells → due = ⟨BitVec.ofNat 16 (number2 f1 f0), number3 p2 p1 p0⟩ →
      (∀ l, deed.line = some l →
        (s.claim l).holders.get p = true ∧
          ((s.claim l).state = .shared → deed.action ≠ .toggle ∧
            ((s.claim l).policy = .refuse → ∀ e ∈ s.entries, e.deed.line = some l → e.due ≠ due))) →
      (∀ c, deed.rearms = some c → (s.channel c).subscribers.get p = true) →
      s.tb.mode ≠ .refLost →
      (leadOf s.tb.now.frame due.frame = 0 → s.tb.now.phase < due.phase) → leadOf s.tb.now.frame due.frame ≤ 4095 →
      due.phase < (if leadOf s.tb.now.frame due.frame = 0 then s.tb.length else s.tb.staged.getD s.tb.length) →
      s.entries.length < 96 → s.ownCount p < 32 →
        ∃ i : SlotId, (∀ e ∈ s.entries, e.handle.slot ≠ i) ∧ (∀ j, j < i → ∃ e ∈ s.entries, e.handle.slot = j) ∧
          exec (.schedule p) s =
            .next (((arrived s p).setEntries (placeEntry s.tb.now.frame
                { handle := ⟨i, s.uses[i]⟩, owner := p, deed, due, recurrence, tag := g, notify := tells, late := policy,
                  origin := .host } s.entries)).placeReply p tag .ok (bytes2 ((s.uses[i]).toNat * 128 + i.val)))

/-- A SCHEDULE is refused by the first of its checks that fails, in their order: the fields, ownership, TOGGLE on a SHARED
line, the timebase state, a due time that is not later than now or behind, beyond the horizon or not below its governing
length, a collision, a full schedule, a full quota. A refusal changes nothing but the port's record and a running silence
timer. -/
def Obligations.ScheduleIsRefusedByItsFirstFailingCheck : Prop :=
  ∀ (s : State) (p : HostId) (tag action target f1 f0 p2 p1 p0 w1 w0 present period r1 r0 group late notify : Byte),
    HoldsRequest s p 32 tag [action, target, f1, f0, p2, p1, p0, w1, w0, present, period, r1, r0, group, late, notify] →
      Open s p →
      ((deedOf action target (number2 w1 w0) = none ∨ recurrenceOf present period (number2 r1 r0) = none ∨
          16 ≤ group.toNat ∨ 2 ≤ late.toNat ∨ action ≠ 5 ∧ 2 ≤ notify.toNat) →
        Refuses (.schedule p) s p tag .badArg) ∧
      ∀ (deed : Deed) (recurrence : Option Recurrence) (lead : Nat) (due : Time),
        deedOf action target (number2 w1 w0) = some deed → recurrenceOf present period (number2 r1 r0) = some recurrence →
        group.toNat < 16 → late.toNat < 2 → (action = 5 ∨ notify.toNat < 2) →
        due = ⟨BitVec.ofNat 16 (number2 f1 f0), number3 p2 p1 p0⟩ → lead = leadOf s.tb.now.frame due.frame →
          (∀ l, deed.line = some l → (s.claim l).holders.get p = false → Refuses (.schedule p) s p tag .notOwner) ∧
          (∀ c, deed.rearms = some c → (s.channel c).subscribers.get p = false → Refuses (.schedule p) s p tag .notSubscribed) ∧
          ((∀ l, deed.line = some l → (s.claim l).holders.get p = true) →
            (∀ c, deed.rearms = some c → (s.channel c).subscribers.get p = true) →
              (∀ l, deed = .onLine .toggle l → (s.claim l).state = .shared → Refuses (.schedule p) s p tag .notAllowed) ∧
              ((∀ l, deed = .onLine .toggle l → (s.claim l).state ≠ .shared) →
                (s.tb.mode = .refLost → Refuses (.schedule p) s p tag .state) ∧
                (s.tb.mode ≠ .refLost →
                  (lead = 0 ∧ due.phase ≤ s.tb.now.phase ∨ 32768 ≤ lead → Refuses (.schedule p) s p tag .late) ∧
                  (4096 ≤ lead → lead < 32768 → Refuses (.schedule p) s p tag .tooFar) ∧
                  (lead = 0 → s.tb.now.phase < due.phase → s.tb.length ≤ due.phase → Refuses (.schedule p) s p tag .phaseRange) ∧
                  (1 ≤ lead → lead ≤ 4095 → s.tb.staged.getD s.tb.length ≤ due.phase → Refuses (.schedule p) s p tag .phaseRange) ∧
                  ((lead = 0 → s.tb.now.phase < due.phase) → lead ≤ 4095 →
                    due.phase < (if lead = 0 then s.tb.length else s.tb.staged.getD s.tb.length) →
                    (∀ l, deed.line = some l → (s.claim l).state = .shared → (s.claim l).policy = .refuse →
                      (∃ e ∈ s.entries, e.deed.line = some l ∧ e.due = due) → Refuses (.schedule p) s p tag .collide) ∧
                    ((∀ l, deed.line = some l → (s.claim l).state = .shared → (s.claim l).policy = .refuse →
                        ∀ e ∈ s.entries, e.deed.line = some l → e.due ≠ due) →
                      (96 ≤ s.entries.length → Refuses (.schedule p) s p tag .full) ∧
                      (s.entries.length < 96 → 32 ≤ s.ownCount p → Refuses (.schedule p) s p tag .quota))))))

/-- An entry takes its place behind every entry due no later and before every entry due later, and a list in due-time order
stays so. -/
def Obligations.PlaceEntryKeepsDueTimeOrder : Prop :=
  ∀ (cur : BitVec 16) (e : Entry) (es : List Entry),
    es.Pairwise (fun x y => earlier cur y.due x.due = false) →
      (placeEntry cur e es).Pairwise (fun x y => earlier cur y.due x.due = false) ∧
        ∃ before behind, es = before ++ behind ∧ placeEntry cur e es = before ++ e :: behind ∧
          (∀ x ∈ before, earlier cur e.due x.due = false) ∧ (∀ x ∈ behind, earlier cur e.due x.due = true)

/-- CANCEL removes the entry its handle names when the requester owns it, freeing the slot; a stale handle is answered
NO_ENTRY, another host's entry NOT_OWNER, a slot above 95 BAD_ARG. CANCEL_GROUP removes every entry of the requester with the
tag and reports how many. -/
def Obligations.CancelRemovesTheOwnersEntries : Prop :=
  ∀ (s : State) (p : HostId) (tag : Byte), Open s p → ScheduleInRoom s →
    (∀ hi lo : Byte, HoldsRequest s p 33 tag [hi, lo] →
      (handleOf hi lo = none → exec (.cancel p) s = .next ((arrived s p).placeReply p tag .badArg [])) ∧
      ∀ handle, handleOf hi lo = some handle →
        ((∀ e ∈ s.entries, e.handle ≠ handle) → exec (.cancel p) s = .next ((arrived s p).placeReply p tag .noEntry [])) ∧
        ∀ e ∈ s.entries, e.handle = handle →
          (e.owner ≠ p → exec (.cancel p) s = .next ((arrived s p).placeReply p tag .notOwner [])) ∧
          (e.owner = p →
            exec (.cancel p) s =
              .next ((((arrived s p).setEntries (s.entries.filter fun x => decide (x.handle.slot ≠ handle.slot))).setUse
                handle.slot (s.uses[handle.slot] + 1)).placeReply p tag .ok []))) ∧
    (∀ g : Byte, HoldsRequest s p 34 tag [g] →
      ((g.toNat = 0 ∨ 15 < g.toNat) → exec (.cancelGroup p) s = .next ((arrived s p).placeReply p tag .badArg [])) ∧
      (1 ≤ g.toNat → g.toNat ≤ 15 →
        ∃ t, exec (.cancelGroup p) s = .next t ∧
          t.entries = s.entries.filter (fun e => !(decide (e.owner = p) && decide (e.tag.val = g.toNat))) ∧
          SlotsFollow s t ∧ Elsewhere s t p ∧ t.tb = s.tb ∧ t.lines = s.lines ∧ t.claims = s.claims ∧ t.channels = s.channels ∧
          t.reflexes = s.reflexes ∧
          t.notices = s.notices ∧
          Answers t p tag .ok [byte (s.entries.length - t.entries.length)]))

/-- The status requests that need a session report their records, item by item, and change nothing but the port's record and
a running silence timer: QUERY_ENTRY with the entry's rank, SCHEDULE_STATUS, LINE_STATUS and SENSE_STATUS. The reflex item of
SENSE_STATUS is the reading of log entry 5. -/
def Obligations.SessionStatusRequestsReport : Prop :=
  ∀ (s : State) (p : HostId) (tag : Byte), Open s p →
    (∀ (hi lo : Byte) (before behind : List Entry) (e : Entry), HoldsRequest s p 35 tag [hi, lo] →
      handleOf hi lo = some e.handle → s.entries = before ++ e :: behind → (∀ x ∈ before, x.handle ≠ e.handle) →
      exec (.queryEntry p) s =
        .next ((arrived s p).placeReply p tag .ok
          (bytes2 (e.handle.use.toNat * 128 + e.handle.slot.val) ++
            [HostId.code e.owner, e.deed.action.code, targetByte e.deed.target] ++ timeBytes e.due ++
            bytes2 (e.deed.width.getD 0) ++
            (match e.recurrence with
              | none => [0, 0, 0]
              | some r => byte r.period :: bytes2 r.remaining) ++
            [byte (e.tag.val + (if e.notify then 16 else 0) + (if e.late = .drop then 32 else 0)),
              (match e.origin with
                | .host => 255
                | .reflex c => byte c.val),
              byte before.length]))) ∧
    (∀ hi lo : Byte, HoldsRequest s p 35 tag [hi, lo] →
      (handleOf hi lo = none → exec (.queryEntry p) s = .next ((arrived s p).placeReply p tag .badArg [])) ∧
      (∀ handle, handleOf hi lo = some handle → (∀ e ∈ s.entries, e.handle ≠ handle) →
        exec (.queryEntry p) s = .next ((arrived s p).placeReply p tag .noEntry []))) ∧
    (HoldsRequest s p 36 tag [] →
      exec (.scheduleStatus p) s =
        .next ((arrived s p).placeReply p tag .ok
          ([byte s.entries.length, byte (s.entries.filter fun e => decide (e.owner = p)).length,
              byte (96 - s.entries.length)] ++
            (match s.entries.filter fun e => decide (e.owner = p) with
              | [] => [0, 0, 0, 0, 0, 0]
              | e :: _ => 1 :: timeBytes e.due)))) ∧
    (∀ (b : Byte) (l : LineId), HoldsRequest s p 52 tag [b] → b.toNat = l.val →
      exec (.lineStatus p) s =
        .next ((arrived s p).placeReply p tag .ok
          ([(s.claim l).state.code, hostSetByte (s.claim l).holders, (s.claim l).policy.code, byte (s.claim l).waiting.length] ++
            placeBytes (s.claim l).waiting ++
            [flagByte (s.line l).settings.idle, flagByte (s.line l).settings.frameReturn,
              levelOrByte (s.line l).settings.safe, flagByte (s.line l).level, (s.line l).output.code,
              flagByte (s.line l).heldLevel] ++
            (match (s.line l).pulse with
              | none => [0, 0, 0]
              | some n => 1 :: bytes2 n) ++
            [levelOrByte (s.pin l)]))) ∧
    (∀ (b : Byte) (c : ChannelId), HoldsRequest s p 60 tag [b] → b.toNat = c.val →
      exec (.senseStatus p) s =
        .next ((arrived s p).placeReply p tag .ok
          ([(s.channel c).state.code, (s.channel c).edge.code, (s.channel c).filter.code, byte (s.channel c).prescale,
              flagByte (s.channel c).gate, hostSetByte (s.channel c).subscribers, byte (s.channel c).counter] ++
            bytes2 (s.channel c).sequence.toNat ++
            (match (s.channel c).last with
              | none => [0, 0, 0, 0, 0, 0, 0, 0, 0]
              | some k => [1] ++ timeBytes k.stamp ++ [k.edge.code] ++ bytes2 k.sequence.toNat) ++
            [flagByte (s.channel c).settled, byte (s.channel c).filterCount] ++
            (match s.reflex c with
              | none => [0, 0]
              | some r => [1, HostId.code r.owner]))))

/-- An entry that fires leaves the list when it is one-shot or at its last firing, freeing its slot; otherwise it goes back
one period later with its handle, its count lowered unless it is unbounded, when its new due time fits and does not collide.
Where the new due time is not below its governing length, or collides, the entry leaves: a DONE with the final flag when its
notify option is yes, then an EVICTED with the reason. Its owner is sent a DONE when its notify option is yes, and nothing
when it is no. A REARM opens its channel. An overtaken DROP entry leaves with an EXPIRED and does not fire. -/
def Obligations.FiredEntryLeavesOrContinues : Prop :=
  ∀ (s : State) (late : Bool) (e : Entry), ScheduleInRoom s → e ∈ s.entries →
    (s.conclude late e).lines = s.lines ∧ (s.conclude late e).claims = s.claims ∧ (s.conclude late e).tb = s.tb ∧
    (e.deed.rearms = none → (s.conclude late e).channels = s.channels) ∧
    (∀ c, e.deed.rearms = some c → (s.conclude late e).channel c =
      if (s.channel c).state = .idle then s.channel c else { s.channel c with state := .opened, counter := 0 }) ∧
    ((e.recurrence = none ∨ ∃ n, e.recurrence = some ⟨n, 1⟩) →
      (s.conclude late e).entries = s.entries.filter (fun x => decide (x.handle.slot ≠ e.handle.slot)) ∧
        (s.conclude late e).uses[e.handle.slot] = s.uses[e.handle.slot] + 1 ∧ TellsDone s late e true 0) ∧
    (∀ period remaining due, e.recurrence = some ⟨period, remaining⟩ → remaining ≠ 1 →
      due = ⟨e.due.frame + BitVec.ofNat 16 period, e.due.phase⟩ →
      due.phase < (if leadOf s.tb.now.frame due.frame = 0 then s.tb.length else s.tb.staged.getD s.tb.length) →
      (∀ l, e.deed.line = some l → (s.claim l).state = .shared → (s.claim l).policy = .refuse →
        ∀ x ∈ s.entries, x.handle.slot ≠ e.handle.slot → x.deed.line = some l → x.due ≠ due) →
        (s.conclude late e).entries =
            placeEntry s.tb.now.frame { e with due, recurrence := some ⟨period, remaining - 1⟩ }
              (s.entries.filter fun x => decide (x.handle.slot ≠ e.handle.slot)) ∧
          (s.conclude late e).uses = s.uses ∧ TellsDone s late e false (remaining - 1)) ∧
    (∀ period remaining due governing reason, e.recurrence = some ⟨period, remaining⟩ → remaining ≠ 1 →
      due = ⟨e.due.frame + BitVec.ofNat 16 period, e.due.phase⟩ →
      governing = (if leadOf s.tb.now.frame due.frame = 0 then s.tb.length else s.tb.staged.getD s.tb.length) →
      (reason = .frameLength ∧ governing ≤ due.phase ∨
        reason = .collide ∧ due.phase < governing ∧
          ∃ l, e.deed.line = some l ∧ (s.claim l).state = .shared ∧ (s.claim l).policy = .refuse ∧
            ∃ x ∈ s.entries, x.handle.slot ≠ e.handle.slot ∧ x.deed.line = some l ∧ x.due = due) →
        (s.conclude late e).entries = s.entries.filter (fun x => decide (x.handle.slot ≠ e.handle.slot)) ∧
          (s.conclude late e).uses[e.handle.slot] = s.uses[e.handle.slot] + 1 ∧
          TellsEvicted s late e (remaining - 1) reason) ∧
    ((s.expire e).entries = s.entries.filter (fun x => decide (x.handle.slot ≠ e.handle.slot)) ∧
      (s.expire e).uses[e.handle.slot] = s.uses[e.handle.slot] + 1 ∧
      (s.expire e).tb = s.tb ∧ (s.expire e).lines = s.lines ∧ (s.expire e).claims = s.claims ∧
      (s.expire e).channels = s.channels ∧ (s.expire e).reflexes = s.reflexes ∧
      (∀ h, Sent s (s.expire e) h (if h = e.owner then 1 else 0)) ∧
      (Open s e.owner → (s.noticeRec e.owner).held.length < Config.queueCapacity →
        ∃ n ∈ ((s.expire e).noticeRec e.owner).held,
          n.stamp = s.tb.now ∧ n.body = .expired e.handle e.deed.target))

/-! ## Claims -/

/-- CLAIM by a host that neither holds nor waits: a FREE line is granted at once, and held at its safe level in REF_LOST; a
SHARED claim joins a SHARED line with an empty wait list; any other is queued with wait yes and refused with BUSY with wait
no. A holder or waiter is refused with ALREADY. -/
def Obligations.ClaimGrantsJoinsQueuesOrRefuses : Prop :=
  ∀ (s : State) (p : HostId) (tag line mode wait idle ret safe policy : Byte) (l : LineId) (ask : Ask) (waits : Bool)
    (settings : LineSettings),
    HoldsRequest s p 40 tag [line, mode, wait, idle, ret, safe, policy] → Open s p → line.toNat = l.val →
      askOf mode policy = some ask → boolOf wait = some waits → settingsOf idle ret safe = some settings →
        ((s.claim l).holders.get p = true → exec (.claim p) s = .next ((arrived s p).placeReply p tag .already [0])) ∧
        ((s.claim l).holders.get p = false → (∃ w ∈ (s.claim l).waiting, w.host = p) →
          exec (.claim p) s = .next ((arrived s p).placeReply p tag .already [1])) ∧
        ((s.claim l).holders.get p = false → (∀ w ∈ (s.claim l).waiting, w.host ≠ p) →
          ((s.claim l).state = .free →
            exec (.claim p) s =
              .next ((((arrived s p).setClaim l
                  { state := if ask = .exclusive then .exclusive else .shared
                    holders := (Quad.const false).set p true
                    policy := (match ask with
                      | .exclusive => .refuse
                      | .shared asked => asked)
                    waiting := [] }).setLine l
                  { level := settings.idle, pulse := none, settings
                    output := if s.tb.mode = .refLost ∧ settings.safe.isSome then .held else .driven
                    heldLevel := if s.tb.mode = .refLost then settings.safe.getD false else false }).placeReply p tag .ok
                (match ask with
                  | .exclusive => [0, 0, 1]
                  | .shared asked => [1, asked.code, 1]))) ∧
          (∀ asked, (s.claim l).state = .shared → ask = .shared asked → (s.claim l).waiting = [] →
            exec (.claim p) s =
              .next (((arrived s p).setClaim l
                  { s.claim l with holders := (s.claim l).holders.set p true }).placeReply p tag .ok
                [1, (s.claim l).policy.code, byte (hostCount ((s.claim l).holders.set p true))])) ∧
          (((s.claim l).state = .exclusive ∨
              (s.claim l).state = .shared ∧ (ask = .exclusive ∨ (s.claim l).waiting ≠ [])) →
            (waits = true →
              exec (.claim p) s =
                .next (((arrived s p).setClaim l
                    { s.claim l with waiting := (s.claim l).waiting ++ [⟨p, ask, settings⟩] }).placeReply p tag .queued
                  [byte ((s.claim l).waiting.length + 1)])) ∧
            (waits = false →
              exec (.claim p) s =
                .next ((arrived s p).placeReply p tag .busy
                  [(s.claim l).state.code, byte (s.claim l).waiting.length]))))

/-- RELEASE by a holder takes it out of the holders and removes its entries and then its reflexes on the line, telling it each
with CANCELLED and REFLEX_REMOVED, reason RELEASE; with other members the line stays as it is, with none it is handed on to the
head of its wait list, and with no place waiting it becomes FREE. RELEASE by a waiting host withdraws its place and no other;
the run of SHARED places that this brings to the head of a SHARED line's wait list is admitted. Each host to whom the line
passes is sent CLAIM_GRANTED, and no other notice is sent. Any other host is refused. -/
def Obligations.ReleaseGivesUpTheLine : Prop :=
  ∀ (s : State) (p : HostId) (tag line : Byte) (l : LineId),
    HoldsRequest s p 41 tag [line] → Open s p → line.toNat = l.val → ScheduleInRoom s →
      ((s.claim l).holders.get p = true →
        ∃ t, exec (.release p) s = .next t ∧ Answers t p tag .ok [0] ∧
          t.entries = s.entries.filter (fun e => !(decide (e.owner = p) && decide (e.deed.line = some l))) ∧
          (∀ c : ChannelId, t.reflex c =
            if ∃ r ∈ s.reflex c, r.owner = p ∧ r.deed.deed.line = some l then none else s.reflex c) ∧
          SlotsFollow s t ∧ Elsewhere s t p ∧ t.tb = s.tb ∧ t.channels = s.channels ∧
          (∀ m : LineId, m ≠ l → t.claim m = s.claim m ∧ t.line m = s.line m) ∧
          ((∃ k, k ≠ p ∧ (s.claim l).holders.get k = true) →
            t.claim l = { s.claim l with holders := (s.claim l).holders.set p false } ∧ t.line l = s.line l) ∧
          ((∀ k, k ≠ p → (s.claim l).holders.get k = false) → (s.claim l).waiting = [] →
            t.claim l = { state := .free, holders := ⟨false, false, false, false⟩, policy := .refuse, waiting := [] } ∧
              t.line l =
                { level := false, output := .driven, heldLevel := false, pulse := none,
                  settings := { idle := false, frameReturn := false, safe := none } } ∧
              t.pin l = none) ∧
          HoldingLeft s t p l ∧
          ∀ k, Receives s t k
            ((if k = p then
                removalNews s p (fun e => decide (e.deed.line = some l)) (.cancelled · .released) ++
                  reflexNews s p (fun _ r => decide (r.deed.deed.line = some l)) .released
              else []) ++ leavingNews s p l k)) ∧
      ((s.claim l).holders.get p = false → (∃ w ∈ (s.claim l).waiting, w.host = p) →
        ∃ t, exec (.release p) s = .next t ∧ Answers t p tag .ok [1] ∧ t.lines = s.lines ∧ t.entries = s.entries ∧
          t.uses = s.uses ∧ t.channels = s.channels ∧ t.reflexes = s.reflexes ∧ t.tb = s.tb ∧ Elsewhere s t p ∧
          (∀ m : LineId, m ≠ l → t.claim m = s.claim m) ∧
          (t.claim l).policy = (s.claim l).policy ∧ (∀ w ∈ (t.claim l).waiting, w ∈ (s.claim l).waiting ∧ w.host ≠ p) ∧
          PlaceWithdrawn s t p l ∧ ((s.claim l).state ≠ .shared → t.notices = s.notices) ∧
          ∀ k, Receives s t k (leavingNews s p l k)) ∧
      ((s.claim l).holders.get p = false → (∀ w ∈ (s.claim l).waiting, w.host ≠ p) →
        exec (.release p) s = .next ((arrived s p).placeReply p tag .notOwner []))

/-- A line whose last holder has left goes to the head of its wait list: an EXCLUSIVE place alone, or the whole run of SHARED
places with the policy of the first; the record is set from the first place's settings (in REF_LOST with its safe level
applied), the places behind stay, and each host granted is sent CLAIM_GRANTED with the mode and the policy, and no other notice
is sent. With no place waiting it becomes FREE. -/
def Obligations.LineIsHandedToTheHeadOfItsWaitList : Prop :=
  ∀ (s : State) (l : LineId),
    ((s.claim l).waiting = [] →
      s.handOn l =
        (s.setClaim l
          { state := .free, holders := ⟨false, false, false, false⟩, policy := .refuse, waiting := [] }).setLine l
          { level := false, output := .driven, heldLevel := false, pulse := none,
            settings := { idle := false, frameReturn := false, safe := none } }) ∧
    ∀ (w : Place) (rest : List Place), (s.claim l).waiting = w :: rest →
      (s.handOn l).line l =
          { level := w.settings.idle, pulse := none, settings := w.settings
            output := if s.tb.mode = .refLost ∧ w.settings.safe.isSome then .held else .driven
            heldLevel := if s.tb.mode = .refLost then w.settings.safe.getD false else false } ∧
        (∀ m : LineId, m ≠ l → (s.handOn l).line m = s.line m ∧ (s.handOn l).claim m = s.claim m) ∧
        (s.handOn l).entries = s.entries ∧ (s.handOn l).reflexes = s.reflexes ∧ (s.handOn l).tb = s.tb ∧
        (∀ h, Receives s (s.handOn l) h (handOverNews s l (w :: rest) h)) ∧
        (w.ask = .exclusive →
          (s.handOn l).claim l =
            { state := .exclusive, holders := (Quad.const false).set w.host true, policy := .refuse, waiting := rest }) ∧
        (∀ policy run behind, w.ask = .shared policy → rest = run ++ behind → (∀ x ∈ run, x.ask ≠ .exclusive) →
          (∀ x ∈ behind.head?, x.ask = .exclusive) →
          ((s.handOn l).claim l).state = .shared ∧ ((s.handOn l).claim l).policy = policy ∧
            ((s.handOn l).claim l).waiting = behind ∧
            ∀ h, ((s.handOn l).claim l).holders.get h = true ↔ ∃ x ∈ w :: run, x.host = h)

/-! ## Drive lines -/

/-- The four output requests are refused to a host that does not hold the line, with NOT_OWNER, and to one member of several,
with BUSY; a refusal changes nothing but the port's record and a running silence timer. -/
def Obligations.OutputRequestsNeedSoleControl : Prop :=
  ∀ (s : State) (p : HostId) (tag line : Byte) (l : LineId) (c : Instr) (status : Status),
    Open s p → line.toNat = l.val →
      ((∃ idle ret safe settings, c = .lineSetup p ∧ HoldsRequest s p 48 tag [line, idle, ret, safe] ∧
            settingsOf idle ret safe = some settings) ∨
        (c = .outputHold p ∧ HoldsRequest s p 49 tag [line]) ∨
        (∃ level v, c = .outputForce p ∧ HoldsRequest s p 50 tag [line, level] ∧ boolOf level = some v) ∨
        (c = .outputFollow p ∧ HoldsRequest s p 51 tag [line])) →
      ((s.claim l).holders.get p = false ∧ status = .notOwner ∨
        (s.claim l).holders.get p = true ∧ (∃ k, k ≠ p ∧ (s.claim l).holders.get k = true) ∧ status = .busy) →
        exec c s = .next ((arrived s p).placeReply p tag status [])

/-- Under sole control, LINE_SETUP replaces the three settings and nothing else; OUTPUT_HOLD fixes a DRIVEN line at its
level; OUTPUT_FORCE sets the level a HELD line shows; OUTPUT_FOLLOW returns a HELD line to its level; the other cases are
refused. -/
def Obligations.OutputRequestsActOnTheHeldLine : Prop :=
  ∀ (s : State) (p : HostId) (tag line : Byte) (l : LineId),
    Open s p → line.toNat = l.val → (s.claim l).holders.get p = true → (∀ k, k ≠ p → (s.claim l).holders.get k = false) →
      (∀ idle ret safe settings, HoldsRequest s p 48 tag [line, idle, ret, safe] → settingsOf idle ret safe = some settings →
        exec (.lineSetup p) s =
          .next (((arrived s p).setLine l { s.line l with settings }).placeReply p tag .ok [])) ∧
      (HoldsRequest s p 49 tag [line] →
        ((s.line l).output = .driven →
          exec (.outputHold p) s =
            .next (((arrived s p).setLine l
              { s.line l with output := .held, heldLevel := (s.line l).level }).placeReply p tag .ok [])) ∧
        ((s.line l).output = .held → exec (.outputHold p) s = .next ((arrived s p).placeReply p tag .already []))) ∧
      (∀ level v, HoldsRequest s p 50 tag [line, level] → boolOf level = some v →
        ((s.line l).output = .held →
          exec (.outputForce p) s =
            .next (((arrived s p).setLine l { s.line l with heldLevel := v }).placeReply p tag .ok [])) ∧
        ((s.line l).output = .driven → exec (.outputForce p) s = .next ((arrived s p).placeReply p tag .state []))) ∧
      (HoldsRequest s p 51 tag [line] →
        ((s.line l).output = .held →
          exec (.outputFollow p) s =
            .next (((arrived s p).setLine l
              { s.line l with output := .driven, heldLevel := false }).placeReply p tag .ok [])) ∧
        ((s.line l).output = .driven → exec (.outputFollow p) s = .next ((arrived s p).placeReply p tag .already [])))

/-- On a SET_WINS or CLEAR_WINS line the order of a group plays no part: the level is the one that wins, and the pulse becomes
the widest PULSE of the group where the result is the active level, and ends in any other group. On an EXCLUSIVE or REFUSE
line the entries act in list order: a SET, CLEAR or TOGGLE ends the pulse, and a PULSE takes the line to its active level with
its width, or the widest of the PULSEs in a row behind which it stands in the group, whatever count an earlier group left. A
FREE line takes no group, and no group changes the output state, the held level or the settings. A TOGGLE in a group on a
SET_WINS or CLEAR_WINS line, where none comes to stand, asks for nothing by the model's choice (log entry 11). -/
def Obligations.FiringGroupsCombineByPolicy : Prop :=
  ∀ (r : OutputRec) (c : ClaimRec),
    (c.state = .free → ∀ g : List LineAction, r.applyGroup c g = r) ∧
    (∀ g₁ g₂ : List LineAction, g₁.Perm g₂ → c.state = .shared → c.policy ≠ .refuse →
      r.applyGroup c g₁ = r.applyGroup c g₂) ∧
    (∀ g : List LineAction, c.state = .shared →
      (c.policy = .setWins →
        ((r.applyGroup c g).level = true ↔
          LineAction.set ∈ g ∨ (∃ w, LineAction.pulse w ∈ g) ∧ r.settings.idle = false)) ∧
      (c.policy = .clearWins → (∀ k ∈ g, k ≠ .toggle) →
        ((r.applyGroup c g).level = false ↔
          LineAction.clear ∈ g ∨ (∃ w, LineAction.pulse w ∈ g) ∧ r.settings.idle = true)) ∧
      (c.policy ≠ .refuse →
        ((∀ w, LineAction.pulse w ∉ g) ∨ (r.applyGroup c g).level = r.settings.idle → (r.applyGroup c g).pulse = none) ∧
        ((∃ w, LineAction.pulse w ∈ g) → (r.applyGroup c g).level = !r.settings.idle →
          ∃ n, (r.applyGroup c g).pulse = some n ∧ LineAction.pulse n ∈ g ∧ ∀ w, LineAction.pulse w ∈ g → w ≤ n))) ∧
    (∀ g : List LineAction, (c.state = .exclusive ∨ c.state = .shared ∧ c.policy = .refuse) →
      r.applyGroup c [] = r ∧
      ((r.applyGroup c (g ++ [.set])).level = true ∧ (r.applyGroup c (g ++ [.set])).pulse = none) ∧
      ((r.applyGroup c (g ++ [.clear])).level = false ∧ (r.applyGroup c (g ++ [.clear])).pulse = none) ∧
      ((r.applyGroup c (g ++ [.toggle])).level = !(r.applyGroup c g).level ∧
        (r.applyGroup c (g ++ [.toggle])).pulse = none) ∧
      ((∀ w, g.getLast? ≠ some (.pulse w)) → ∀ (w : Nat) (ws : List Nat) (group : List LineAction),
        group = g ++ (w :: ws).map LineAction.pulse →
          (r.applyGroup c group).level = !r.settings.idle ∧
            ∃ n, (r.applyGroup c group).pulse = some n ∧ n ∈ w :: ws ∧ ∀ x ∈ w :: ws, x ≤ n)) ∧
    ∀ g : List LineAction,
      (r.applyGroup c g).output = r.output ∧ (r.applyGroup c g).heldLevel = r.heldLevel ∧
        (r.applyGroup c g).settings = r.settings

/-! ## Sense channels and reflexes -/

/-- SENSE_SETUP is refused with BUSY and the number of subscribers where another host subscribes; otherwise it replaces the
configuration, clears the count, seeds the settled level from the line, and reopens a GATED channel when the gate is off. The
layouts of both replies are the reading of log entry 5. -/
def Obligations.SenseSetupNeedsNoOtherSubscriber : Prop :=
  ∀ (s : State) (p : HostId) (tag channel edge filter prescale gate : Byte) (c : ChannelId) (e : EdgeSelection) (f : Filter)
    (g : Bool),
    HoldsRequest s p 56 tag [channel, edge, filter, prescale, gate] → Open s p → channel.toNat = c.val →
      edgeSelectionOf edge = some e → filterOf filter = some f → boolOf gate = some g →
        ((∃ k, k ≠ p ∧ (s.channel c).subscribers.get k = true) →
          exec (.senseSetup p) s =
            .next ((arrived s p).placeReply p tag .busy [byte (hostCount (s.channel c).subscribers)])) ∧
        ((∀ k, k ≠ p → (s.channel c).subscribers.get k = false) →
          ∀ after, after = (if (s.channel c).state = .gated ∧ g = false then .opened else (s.channel c).state) →
            exec (.senseSetup p) s =
              .next (((arrived s p).setChannel c
                { s.channel c with
                  edge := e, filter := f, prescale := prescale.toNat, gate := g, counter := 0,
                  settled := (s.channel c).pin, filterCount := 0, state := after }).placeReply p tag .ok [after.code]))

/-- SUBSCRIBE adds the requester and opens an IDLE channel; UNSUBSCRIBE takes it out, removes its REARM entries and then its
reflex on the channel, telling it each with CANCELLED and REFLEX_REMOVED, reason UNSUBSCRIBE, and makes a channel with no
subscriber left IDLE with its counts cleared; each is refused where it does not apply. The layouts of the replies are the
reading of log entry 5. -/
def Obligations.SubscribersJoinAndLeave : Prop :=
  ∀ (s : State) (p : HostId) (tag channel : Byte) (c : ChannelId), Open s p → channel.toNat = c.val → ScheduleInRoom s →
    (HoldsRequest s p 57 tag [channel] →
      ((s.channel c).subscribers.get p = true →
        exec (.subscribe p) s = .next ((arrived s p).placeReply p tag .already [])) ∧
      ((s.channel c).subscribers.get p = false →
        ∃ r : ChannelRec,
          exec (.subscribe p) s =
              .next (((arrived s p).setChannel c r).placeReply p tag .ok
                ([r.state.code, r.edge.code, r.filter.code, byte r.prescale, flagByte r.gate,
                  byte (hostCount r.subscribers)] ++ bytes2 r.sequence.toNat)) ∧
            r =
              { s.channel c with
                subscribers := (s.channel c).subscribers.set p true
                state := if (s.channel c).state = .idle then .opened else (s.channel c).state
                counter := if (s.channel c).state = .idle then 0 else (s.channel c).counter })) ∧
    (HoldsRequest s p 58 tag [channel] →
      ((s.channel c).subscribers.get p = false →
        exec (.unsubscribe p) s = .next ((arrived s p).placeReply p tag .notSubscribed [])) ∧
      ((s.channel c).subscribers.get p = true →
        ∃ t, exec (.unsubscribe p) s = .next t ∧
          Answers t p tag .ok [byte (hostCount ((s.channel c).subscribers.set p false))] ∧
          t.entries = s.entries.filter (fun e => !(decide (e.owner = p) && decide (e.deed.rearms = some c))) ∧
          SlotsFollow s t ∧ Elsewhere s t p ∧ (∀ h, h ≠ p → t.noticeRec h = s.noticeRec h) ∧
          Receives s t p
            (removalNews s p (fun e => decide (e.deed.rearms = some c)) (.cancelled · .unsubscribed) ++
              reflexNews s p (fun d _ => decide (d = c)) .unsubscribed) ∧
          (t.reflex c = if ∃ r ∈ s.reflex c, r.owner = p then none else s.reflex c) ∧
          (∀ d : ChannelId, d ≠ c → t.channel d = s.channel d ∧ t.reflex d = s.reflex d) ∧
          t.tb = s.tb ∧ t.lines = s.lines ∧ t.claims = s.claims ∧
          ((∃ k, k ≠ p ∧ (s.channel c).subscribers.get k = true) →
            t.channel c = { s.channel c with subscribers := (s.channel c).subscribers.set p false }) ∧
          ((∀ k, k ≠ p → (s.channel c).subscribers.get k = false) →
            t.channel c =
              { s.channel c with
                subscribers := (s.channel c).subscribers.set p false, state := .idle, counter := 0, sequence := 0,
                last := none })))

/-- SENSE_REARM by a subscriber opens a GATED channel and clears its prescale counter, and reports the state before; a host
that does not subscribe is refused, and so are a channel above 7 and a host with no open session. The layout of the reply is
the reading of log entry 5, and the PREV_UNREAD flag of a reply in a closed session that of log entry 21. -/
def Obligations.SenseRearmReopensTheChannel : Prop :=
  ∀ (s : State) (p : HostId) (tag channel : Byte), HoldsRequest s p 59 tag [channel] →
    ((s.session p).isOpen = false → Refuses (.senseRearm p) s p tag .noSession) ∧
    (Open s p → 8 ≤ channel.toNat → Refuses (.senseRearm p) s p tag .badArg) ∧
    ∀ c : ChannelId, Open s p → channel.toNat = c.val →
      ((s.channel c).subscribers.get p = false → Refuses (.senseRearm p) s p tag .notSubscribed) ∧
      ((s.channel c).subscribers.get p = true → (s.channel c).state ≠ .idle →
        exec (.senseRearm p) s =
          .next (((arrived s p).setChannel c
            { s.channel c with state := .opened, counter := 0 }).placeReply p tag .ok [(s.channel c).state.code]))

/-- A change of the line of a channel with the filter OFF is an edge at once: one that completes the prescale count of an
OPEN channel while RUNNING is a capture, numbered, recorded and told to every open subscriber, and closes a channel with its
gate on; one that does not is counted; one that does not qualify, or finds the channel not OPEN or the timebase not RUNNING,
moves the settled level only. With a filter on, or no change, only the pin changes. At a capture the channel's reflex offers
its entry: beyond the horizon, at a collision, in a full schedule or beyond its owner's quota the owner is sent a REFLEX_LOST
with the reason, and otherwise the entry joins the list in the lowest free slot. What SENSE_EDGE and CAPTURE stand for is the
model's choice (log entry 9). -/
def Obligations.SenseEdgeIsCountedOrCaptured : Prop :=
  ∀ (s : State) (c : ChannelId) (level : Level),
    ((s.channel c).filter ≠ .off ∨ (s.channel c).settled = level →
      exec (.senseEdge c.val level) s = .next (s.setChannel c { s.channel c with pin := level })) ∧
    ((s.channel c).filter = .off → (s.channel c).settled ≠ level →
      ((s.channel c).state ≠ .opened ∨ s.tb.mode ≠ .running ∨ (s.channel c).edge = (if level then .falling else .rising)) →
        exec (.senseEdge c.val level) s =
          .next (s.setChannel c { s.channel c with pin := level, settled := level, filterCount := 0 })) ∧
    ((s.channel c).filter = .off → (s.channel c).settled ≠ level → (s.channel c).state = .opened → s.tb.mode = .running →
      ((s.channel c).edge = .both ∨ (s.channel c).edge = (if level then .rising else .falling)) →
      ((s.channel c).counter < (s.channel c).prescale →
        exec (.senseEdge c.val level) s =
          .next (s.setChannel c
            { s.channel c with
              pin := level, settled := level, filterCount := 0, counter := (s.channel c).counter + 1 })) ∧
      ((s.channel c).counter = (s.channel c).prescale →
        ∃ t, exec (.senseEdge c.val level) s = .next t ∧ exec (.capture c.val level) s = .next t ∧
          t.channel c =
            { s.channel c with
              pin := level, settled := level, filterCount := 0, counter := 0
              sequence := (s.channel c).sequence + 1
              last := some ⟨s.tb.now, if level then .rising else .falling, (s.channel c).sequence + 1⟩
              state := if (s.channel c).gate then .gated else .opened } ∧
          (∀ d : ChannelId, d ≠ c → t.channel d = s.channel d) ∧
          t.tb = s.tb ∧ t.lines = s.lines ∧ t.claims = s.claims ∧ t.reflexes = s.reflexes ∧ t.sessions = s.sessions ∧
          (∀ h, (s.channel c).subscribers.get h = true → Open s h → (s.noticeRec h).held.length + 2 ≤ 32 →
            ∃ n ∈ (t.noticeRec h).held,
              n.number = (s.noticeRec h).nextNumber ∧ n.stamp = s.tb.now ∧
                n.body = .capture c (if level then .rising else .falling) ((s.channel c).sequence + 1)) ∧
          (s.reflex c = none →
            t.entries = s.entries ∧
              ∀ h, (t.noticeRec h).nextNumber =
                if (s.channel c).subscribers.get h = true ∧ (s.session h).isOpen = true
                  then (s.noticeRec h).nextNumber + 1 else (s.noticeRec h).nextNumber) ∧
          ∀ (r : Reflex) (due : Time), s.reflex c = some r → TimebaseInRange s → 1 ≤ r.delay →
            (∀ l, r.deed.deed.line = some l →
              (s.claim l).holders.get r.owner = true ∧ ((s.claim l).state = .shared → r.deed.deed.action ≠ .toggle)) →
            due = ⟨s.tb.now.frame + BitVec.ofNat 16 (s.reflexOffer c r).ahead, (s.reflexOffer c r).phase⟩ →
              (4095 < (s.reflexOffer c r).ahead → ReflexLost s t c r.owner .tooFar) ∧
              ((s.reflexOffer c r).ahead ≤ 4095 →
                (∀ l, r.deed.deed.line = some l → (s.claim l).state = .shared → (s.claim l).policy = .refuse →
                  (∃ e ∈ s.entries, e.deed.line = some l ∧ e.due = due) → ReflexLost s t c r.owner .collide) ∧
                ((∀ l, r.deed.deed.line = some l → (s.claim l).state = .shared → (s.claim l).policy = .refuse →
                    ∀ e ∈ s.entries, e.deed.line = some l → e.due ≠ due) →
                  (96 ≤ s.entries.length → ReflexLost s t c r.owner .full) ∧
                  (s.entries.length < 96 → 32 ≤ s.ownCount r.owner → ReflexLost s t c r.owner .quota) ∧
                  (s.entries.length < 96 → s.ownCount r.owner < 32 →
                    t.uses = s.uses ∧ (∀ h, Sent s t h (if (s.channel c).subscribers.get h then 1 else 0)) ∧
                    ∃ i : SlotId, (∀ e ∈ s.entries, e.handle.slot ≠ i) ∧
                      (∀ j, j < i → ∃ e ∈ s.entries, e.handle.slot = j) ∧
                      t.entries =
                        placeEntry s.tb.now.frame
                          { handle := ⟨i, s.uses[i]⟩, owner := r.owner, deed := r.deed.deed, due, recurrence := none,
                            tag := r.tag, notify := r.notify, late := r.late, origin := .reflex c }
                          s.entries)))))

/-- REFLEX_SET by a subscriber that holds the target line installs its record, replacing its own, and is refused with BUSY
and the owner where another host's reflex stands, and before that with NOT_SUBSCRIBED, NOT_OWNER or, for a TOGGLE on a SHARED
line, NOT_ALLOWED; REFLEX_CLEAR removes the requester's own reflex and no other. The layouts of the OK and BUSY replies of
REFLEX_SET are the reading of log entry 5. -/
def Obligations.ReflexIsSetReplacedAndCleared : Prop :=
  ∀ (s : State) (p : HostId) (tag : Byte), Open s p →
    (∀ (channel target action w1 w0 d2 d1 d0 late notify group : Byte) (c : ChannelId) (deed : ReflexDeed)
      (policy : LatePolicy) (tells : Bool) (g : Fin 16),
      HoldsRequest s p 64 tag [channel, target, action, w1, w0, d2, d1, d0, late, notify, group] → channel.toNat = c.val →
        reflexDeedOf action target (number2 w1 w0) = some deed → latePolicyOf late = some policy →
        notifyOf (decide (deed = .mark)) notify = some tells → tagOf group = some g → number3 d2 d1 d0 ≠ 0 →
        ((s.channel c).subscribers.get p = false → Refuses (.reflexSet p) s p tag .notSubscribed) ∧
        ((s.channel c).subscribers.get p = true →
          (∀ l, deed.deed.line = some l → (s.claim l).holders.get p = false → Refuses (.reflexSet p) s p tag .notOwner) ∧
          (∀ l, deed = .onLine .toggle l → (s.claim l).holders.get p = true → (s.claim l).state = .shared →
            Refuses (.reflexSet p) s p tag .notAllowed) ∧
          ((∀ l, deed.deed.line = some l →
              (s.claim l).holders.get p = true ∧ ((s.claim l).state = .shared → deed.deed.action ≠ .toggle)) →
            ((∀ r ∈ s.reflex c, r.owner = p) →
              exec (.reflexSet p) s =
                .next (((arrived s p).setReflex c
                    (some { owner := p, deed, delay := number3 d2 d1 d0, late := policy, notify := tells,
                            tag := g })).placeReply p tag .ok [flagByte (s.reflex c).isSome])) ∧
            (∀ r ∈ s.reflex c, r.owner ≠ p →
              exec (.reflexSet p) s = .next ((arrived s p).placeReply p tag .busy [HostId.code r.owner]))))) ∧
    (∀ (channel : Byte) (c : ChannelId), HoldsRequest s p 65 tag [channel] → channel.toNat = c.val →
      (s.reflex c = none → exec (.reflexClear p) s = .next ((arrived s p).placeReply p tag .noEntry [])) ∧
      (∀ r ∈ s.reflex c,
        (r.owner ≠ p → exec (.reflexClear p) s = .next ((arrived s p).placeReply p tag .notOwner [])) ∧
        (r.owner = p → exec (.reflexClear p) s = .next (((arrived s p).setReflex c none).placeReply p tag .ok []))))

/-- The due time of a reflex's entry lies exactly the delay after the current time, counted in ticks through this frame's
length and then through frames of the governing length, and its phase fits its due frame. -/
def Obligations.ReflexDueTimeCountsTheDelay : Prop :=
  ∀ (s : State) (c : ChannelId) (r : Reflex), TimebaseInRange s →
    ((s.reflexOffer c r).ahead = 0 →
      (s.reflexOffer c r).phase = s.tb.now.phase + r.delay ∧ (s.reflexOffer c r).phase < s.tb.length) ∧
    (∀ k, (s.reflexOffer c r).ahead = k + 1 →
      (s.tb.length - s.tb.now.phase) + k * s.tb.staged.getD s.tb.length + (s.reflexOffer c r).phase = r.delay ∧
        (s.reflexOffer c r).phase < s.tb.staged.getD s.tb.length) ∧
    (s.reflexOffer c r).owner = r.owner ∧ (s.reflexOffer c r).deed = r.deed.deed ∧
    (s.reflexOffer c r).recurrence = none ∧ (s.reflexOffer c r).origin = .reflex c

/-! ## Invariants that every step keeps -/

/-- Every step keeps each attention output asserted exactly when its session is open and its queue holds a notice whose kind
is in its attention mask or one of its condition flags is set; the pin is low exactly then. A step on an empty queue is the
model's choice (log entry 8). -/
def Obligations.StepKeepsAttentionSettled : Prop :=
  ∀ s t : State, AttentionSettled s → step s = .next t →
    AttentionSettled t ∧
      ∀ h, t.atn h = false ↔
        Open t h ∧ ((∃ n ∈ (t.noticeRec h).urgent ++ (t.noticeRec h).routine,
            KindSet.has (t.noticeRec h).attentionMask n.body.kind = true) ∨
          (t.noticeRec h).conditions ≠ ⟨false, false, false⟩)

/-- Every step keeps the notice queues within 32 notices, the saturating counts within 255, the channels' counts within their
ranges, and the ports' records consistent; and every step keeps the part at its reset values while RESET_N is low. A step on
an empty queue is the model's choice (log entry 8), and so is what a command does while RESET_N is low (log entry 17). -/
def Obligations.StepKeepsQueuesAndCountsInRange : Prop :=
  ∀ s t : State, step s = .next t →
    (QueuesInRoom s → CountsSaturate s → ChannelCountsInRange s → PortsConsistent s →
      QueuesInRoom t ∧ CountsSaturate t ∧ ChannelCountsInRange t ∧ PortsConsistent t) ∧
    (ResetIsHeld s → ResetIsHeld t)

/-- Every step keeps the timebase record sound: the phase below the length in effect, the divider below the prescale, fewer
than three misses until the lock is LOST, plans only while RUNNING and held by an open session, and counting only on a
present reference. A step on an empty queue is the model's choice (log entry 8). -/
def Obligations.StepKeepsTheTimebaseSound : Prop :=
  ∀ s t : State, TimebaseInRange s → MissesBelowLoss s → PlansAreHeld s → RunsOnReference s → step s = .next t →
    TimebaseInRange t ∧ MissesBelowLoss t ∧ PlansAreHeld t ∧ RunsOnReference t

/-- Every step keeps every entry of the schedule due later than now, within the horizon, below the governing length of its
frame, and the list in due-time order, with at most 96 entries, 32 of one owner, one to a slot, each under its slot's use
count. A step on an empty queue is the model's choice (log entry 8). -/
def Obligations.StepKeepsTheScheduleDueLater : Prop :=
  ∀ s t : State, TimebaseInRange s → ScheduleInRoom s → HandlesCurrent s → RecurrencesInRange s → ScheduleDueLater s →
    step s = .next t →
      ScheduleInRoom t ∧ HandlesCurrent t ∧ RecurrencesInRange t ∧ ScheduleDueLater t

/-- Every step keeps the holdings of the four hosts consistent: claims with the holders their state admits, wait lists
without duplicates, FREE lines cleared, IDLE channels without subscribers or reflex, entries and reflexes owned by holders
and subscribers, no two entries colliding, and a closed host with nothing. A step on an empty queue is the model's choice
(log entry 8). -/
def Obligations.StepKeepsTheHoldingsConsistent : Prop :=
  ∀ s t : State, ScheduleInRoom s → PlansAreHeld s → SessionsConsistent s → ClaimsConsistent s → WaitListsConsistent s →
    FreeLinesCleared s → ChannelsConsistent s → ReflexesOwned s → EntriesOwned s → NoCollisions s → ClosedHoldsNothing s →
    step s = .next t →
      SessionsConsistent t ∧ ClaimsConsistent t ∧ WaitListsConsistent t ∧ FreeLinesCleared t ∧ ChannelsConsistent t ∧
        ReflexesOwned t ∧ EntriesOwned t ∧ NoCollisions t ∧ ClosedHoldsNothing t
end

