-- ==== Sys2Proof/Laws/State.lean ====
section
/-! SUPPORT. The small lemmas of the state: each field after each update, and each record of a bank after its replacement. -/

namespace Sys2Proof

/-! ## Quad -/

@[simp] theorem Quad.get_const {α : Type} (x : α) (h : HostId) : (Quad.const x).get h = x := by cases h <;> rfl

@[simp] theorem Quad.get_set_same {α : Type} (q : Quad α) (h : HostId) (x : α) : (q.set h x).get h = x := by cases h <;> rfl

theorem Quad.get_set_ne {α : Type} (q : Quad α) {h k : HostId} (x : α) (hne : k ≠ h) : (q.set h x).get k = q.get k := by
  cases h <;> cases k <;> first | rfl | exact absurd rfl hne

theorem Quad.get_set {α : Type} (q : Quad α) (h k : HostId) (x : α) :
    (q.set h x).get k = if k = h then x else q.get k := by
  cases h <;> cases k <;> rfl

@[simp] theorem Quad.set_get {α : Type} (q : Quad α) (h : HostId) : q.set h (q.get h) = q := by cases h <;> rfl

@[simp] theorem Quad.set_set {α : Type} (q : Quad α) (h : HostId) (x y : α) : (q.set h x).set h y = q.set h y := by
  cases h <;> rfl

theorem Quad.ext_get {α : Type} {q r : Quad α} (heq : ∀ h, q.get h = r.get h) : q = r := by
  have ha := heq .a
  have hb := heq .b
  have hc := heq .c
  have hd := heq .d
  cases q; cases r
  simp_all [Quad.get]

namespace Machine

/-! ## setTb -/

@[simp] theorem State.setTb_tb (s : State) (t : Timebase) : (s.setTb t).tb = t := rfl
@[simp] theorem State.setTb_entries (s : State) (t : Timebase) : (s.setTb t).entries = s.entries := rfl
@[simp] theorem State.setTb_uses (s : State) (t : Timebase) : (s.setTb t).uses = s.uses := rfl
@[simp] theorem State.setTb_lines (s : State) (t : Timebase) : (s.setTb t).lines = s.lines := rfl
@[simp] theorem State.setTb_claims (s : State) (t : Timebase) : (s.setTb t).claims = s.claims := rfl
@[simp] theorem State.setTb_channels (s : State) (t : Timebase) : (s.setTb t).channels = s.channels := rfl
@[simp] theorem State.setTb_reflexes (s : State) (t : Timebase) : (s.setTb t).reflexes = s.reflexes := rfl
@[simp] theorem State.setTb_notices (s : State) (t : Timebase) : (s.setTb t).notices = s.notices := rfl
@[simp] theorem State.setTb_sessions (s : State) (t : Timebase) : (s.setTb t).sessions = s.sessions := rfl
@[simp] theorem State.setTb_ports (s : State) (t : Timebase) : (s.setTb t).ports = s.ports := rfl
@[simp] theorem State.setTb_choices (s : State) (t : Timebase) : (s.setTb t).choices = s.choices := rfl
@[simp] theorem State.setTb_pending (s : State) (t : Timebase) : (s.setTb t).pending = s.pending := rfl
@[simp] theorem State.setTb_resetN (s : State) (t : Timebase) : (s.setTb t).resetN = s.resetN := rfl

/-! ## setEntries -/

@[simp] theorem State.setEntries_tb (s : State) (es : List Entry) : (s.setEntries es).tb = s.tb := rfl
@[simp] theorem State.setEntries_entries (s : State) (es : List Entry) : (s.setEntries es).entries = es := rfl
@[simp] theorem State.setEntries_uses (s : State) (es : List Entry) : (s.setEntries es).uses = s.uses := rfl
@[simp] theorem State.setEntries_lines (s : State) (es : List Entry) : (s.setEntries es).lines = s.lines := rfl
@[simp] theorem State.setEntries_claims (s : State) (es : List Entry) : (s.setEntries es).claims = s.claims := rfl
@[simp] theorem State.setEntries_channels (s : State) (es : List Entry) : (s.setEntries es).channels = s.channels := rfl
@[simp] theorem State.setEntries_reflexes (s : State) (es : List Entry) : (s.setEntries es).reflexes = s.reflexes := rfl
@[simp] theorem State.setEntries_notices (s : State) (es : List Entry) : (s.setEntries es).notices = s.notices := rfl
@[simp] theorem State.setEntries_sessions (s : State) (es : List Entry) : (s.setEntries es).sessions = s.sessions := rfl
@[simp] theorem State.setEntries_ports (s : State) (es : List Entry) : (s.setEntries es).ports = s.ports := rfl
@[simp] theorem State.setEntries_choices (s : State) (es : List Entry) : (s.setEntries es).choices = s.choices := rfl
@[simp] theorem State.setEntries_pending (s : State) (es : List Entry) : (s.setEntries es).pending = s.pending := rfl
@[simp] theorem State.setEntries_resetN (s : State) (es : List Entry) : (s.setEntries es).resetN = s.resetN := rfl

/-! ## setUse -/

@[simp] theorem State.setUse_tb (s : State) (i : SlotId) (u : BitVec 9) : (s.setUse i u).tb = s.tb := rfl
@[simp] theorem State.setUse_entries (s : State) (i : SlotId) (u : BitVec 9) : (s.setUse i u).entries = s.entries := rfl
@[simp] theorem State.setUse_uses (s : State) (i : SlotId) (u : BitVec 9) : (s.setUse i u).uses = s.uses.set i.val u i.isLt := rfl
@[simp] theorem State.setUse_lines (s : State) (i : SlotId) (u : BitVec 9) : (s.setUse i u).lines = s.lines := rfl
@[simp] theorem State.setUse_claims (s : State) (i : SlotId) (u : BitVec 9) : (s.setUse i u).claims = s.claims := rfl
@[simp] theorem State.setUse_channels (s : State) (i : SlotId) (u : BitVec 9) : (s.setUse i u).channels = s.channels := rfl
@[simp] theorem State.setUse_reflexes (s : State) (i : SlotId) (u : BitVec 9) : (s.setUse i u).reflexes = s.reflexes := rfl
@[simp] theorem State.setUse_notices (s : State) (i : SlotId) (u : BitVec 9) : (s.setUse i u).notices = s.notices := rfl
@[simp] theorem State.setUse_sessions (s : State) (i : SlotId) (u : BitVec 9) : (s.setUse i u).sessions = s.sessions := rfl
@[simp] theorem State.setUse_ports (s : State) (i : SlotId) (u : BitVec 9) : (s.setUse i u).ports = s.ports := rfl
@[simp] theorem State.setUse_choices (s : State) (i : SlotId) (u : BitVec 9) : (s.setUse i u).choices = s.choices := rfl
@[simp] theorem State.setUse_pending (s : State) (i : SlotId) (u : BitVec 9) : (s.setUse i u).pending = s.pending := rfl
@[simp] theorem State.setUse_resetN (s : State) (i : SlotId) (u : BitVec 9) : (s.setUse i u).resetN = s.resetN := rfl

/-! ## setLine -/

@[simp] theorem State.setLine_tb (s : State) (l : LineId) (r : OutputRec) : (s.setLine l r).tb = s.tb := rfl
@[simp] theorem State.setLine_entries (s : State) (l : LineId) (r : OutputRec) : (s.setLine l r).entries = s.entries := rfl
@[simp] theorem State.setLine_uses (s : State) (l : LineId) (r : OutputRec) : (s.setLine l r).uses = s.uses := rfl
@[simp] theorem State.setLine_lines (s : State) (l : LineId) (r : OutputRec) : (s.setLine l r).lines = s.lines.set l.val r l.isLt := rfl
@[simp] theorem State.setLine_claims (s : State) (l : LineId) (r : OutputRec) : (s.setLine l r).claims = s.claims := rfl
@[simp] theorem State.setLine_channels (s : State) (l : LineId) (r : OutputRec) : (s.setLine l r).channels = s.channels := rfl
@[simp] theorem State.setLine_reflexes (s : State) (l : LineId) (r : OutputRec) : (s.setLine l r).reflexes = s.reflexes := rfl
@[simp] theorem State.setLine_notices (s : State) (l : LineId) (r : OutputRec) : (s.setLine l r).notices = s.notices := rfl
@[simp] theorem State.setLine_sessions (s : State) (l : LineId) (r : OutputRec) : (s.setLine l r).sessions = s.sessions := rfl
@[simp] theorem State.setLine_ports (s : State) (l : LineId) (r : OutputRec) : (s.setLine l r).ports = s.ports := rfl
@[simp] theorem State.setLine_choices (s : State) (l : LineId) (r : OutputRec) : (s.setLine l r).choices = s.choices := rfl
@[simp] theorem State.setLine_pending (s : State) (l : LineId) (r : OutputRec) : (s.setLine l r).pending = s.pending := rfl
@[simp] theorem State.setLine_resetN (s : State) (l : LineId) (r : OutputRec) : (s.setLine l r).resetN = s.resetN := rfl

/-! ## setClaim -/

@[simp] theorem State.setClaim_tb (s : State) (l : LineId) (r : ClaimRec) : (s.setClaim l r).tb = s.tb := rfl
@[simp] theorem State.setClaim_entries (s : State) (l : LineId) (r : ClaimRec) : (s.setClaim l r).entries = s.entries := rfl
@[simp] theorem State.setClaim_uses (s : State) (l : LineId) (r : ClaimRec) : (s.setClaim l r).uses = s.uses := rfl
@[simp] theorem State.setClaim_lines (s : State) (l : LineId) (r : ClaimRec) : (s.setClaim l r).lines = s.lines := rfl
@[simp] theorem State.setClaim_claims (s : State) (l : LineId) (r : ClaimRec) : (s.setClaim l r).claims = s.claims.set l.val r l.isLt := rfl
@[simp] theorem State.setClaim_channels (s : State) (l : LineId) (r : ClaimRec) : (s.setClaim l r).channels = s.channels := rfl
@[simp] theorem State.setClaim_reflexes (s : State) (l : LineId) (r : ClaimRec) : (s.setClaim l r).reflexes = s.reflexes := rfl
@[simp] theorem State.setClaim_notices (s : State) (l : LineId) (r : ClaimRec) : (s.setClaim l r).notices = s.notices := rfl
@[simp] theorem State.setClaim_sessions (s : State) (l : LineId) (r : ClaimRec) : (s.setClaim l r).sessions = s.sessions := rfl
@[simp] theorem State.setClaim_ports (s : State) (l : LineId) (r : ClaimRec) : (s.setClaim l r).ports = s.ports := rfl
@[simp] theorem State.setClaim_choices (s : State) (l : LineId) (r : ClaimRec) : (s.setClaim l r).choices = s.choices := rfl
@[simp] theorem State.setClaim_pending (s : State) (l : LineId) (r : ClaimRec) : (s.setClaim l r).pending = s.pending := rfl
@[simp] theorem State.setClaim_resetN (s : State) (l : LineId) (r : ClaimRec) : (s.setClaim l r).resetN = s.resetN := rfl

/-! ## setChannel -/

@[simp] theorem State.setChannel_tb (s : State) (c : ChannelId) (r : ChannelRec) : (s.setChannel c r).tb = s.tb := rfl
@[simp] theorem State.setChannel_entries (s : State) (c : ChannelId) (r : ChannelRec) : (s.setChannel c r).entries = s.entries := rfl
@[simp] theorem State.setChannel_uses (s : State) (c : ChannelId) (r : ChannelRec) : (s.setChannel c r).uses = s.uses := rfl
@[simp] theorem State.setChannel_lines (s : State) (c : ChannelId) (r : ChannelRec) : (s.setChannel c r).lines = s.lines := rfl
@[simp] theorem State.setChannel_claims (s : State) (c : ChannelId) (r : ChannelRec) : (s.setChannel c r).claims = s.claims := rfl
@[simp] theorem State.setChannel_channels (s : State) (c : ChannelId) (r : ChannelRec) : (s.setChannel c r).channels = s.channels.set c.val r c.isLt := rfl
@[simp] theorem State.setChannel_reflexes (s : State) (c : ChannelId) (r : ChannelRec) : (s.setChannel c r).reflexes = s.reflexes := rfl
@[simp] theorem State.setChannel_notices (s : State) (c : ChannelId) (r : ChannelRec) : (s.setChannel c r).notices = s.notices := rfl
@[simp] theorem State.setChannel_sessions (s : State) (c : ChannelId) (r : ChannelRec) : (s.setChannel c r).sessions = s.sessions := rfl
@[simp] theorem State.setChannel_ports (s : State) (c : ChannelId) (r : ChannelRec) : (s.setChannel c r).ports = s.ports := rfl
@[simp] theorem State.setChannel_choices (s : State) (c : ChannelId) (r : ChannelRec) : (s.setChannel c r).choices = s.choices := rfl
@[simp] theorem State.setChannel_pending (s : State) (c : ChannelId) (r : ChannelRec) : (s.setChannel c r).pending = s.pending := rfl
@[simp] theorem State.setChannel_resetN (s : State) (c : ChannelId) (r : ChannelRec) : (s.setChannel c r).resetN = s.resetN := rfl

/-! ## setReflex -/

@[simp] theorem State.setReflex_tb (s : State) (c : ChannelId) (r : Option Reflex) : (s.setReflex c r).tb = s.tb := rfl
@[simp] theorem State.setReflex_entries (s : State) (c : ChannelId) (r : Option Reflex) : (s.setReflex c r).entries = s.entries := rfl
@[simp] theorem State.setReflex_uses (s : State) (c : ChannelId) (r : Option Reflex) : (s.setReflex c r).uses = s.uses := rfl
@[simp] theorem State.setReflex_lines (s : State) (c : ChannelId) (r : Option Reflex) : (s.setReflex c r).lines = s.lines := rfl
@[simp] theorem State.setReflex_claims (s : State) (c : ChannelId) (r : Option Reflex) : (s.setReflex c r).claims = s.claims := rfl
@[simp] theorem State.setReflex_channels (s : State) (c : ChannelId) (r : Option Reflex) : (s.setReflex c r).channels = s.channels := rfl
@[simp] theorem State.setReflex_reflexes (s : State) (c : ChannelId) (r : Option Reflex) : (s.setReflex c r).reflexes = s.reflexes.set c.val r c.isLt := rfl
@[simp] theorem State.setReflex_notices (s : State) (c : ChannelId) (r : Option Reflex) : (s.setReflex c r).notices = s.notices := rfl
@[simp] theorem State.setReflex_sessions (s : State) (c : ChannelId) (r : Option Reflex) : (s.setReflex c r).sessions = s.sessions := rfl
@[simp] theorem State.setReflex_ports (s : State) (c : ChannelId) (r : Option Reflex) : (s.setReflex c r).ports = s.ports := rfl
@[simp] theorem State.setReflex_choices (s : State) (c : ChannelId) (r : Option Reflex) : (s.setReflex c r).choices = s.choices := rfl
@[simp] theorem State.setReflex_pending (s : State) (c : ChannelId) (r : Option Reflex) : (s.setReflex c r).pending = s.pending := rfl
@[simp] theorem State.setReflex_resetN (s : State) (c : ChannelId) (r : Option Reflex) : (s.setReflex c r).resetN = s.resetN := rfl

/-! ## setNotice -/

@[simp] theorem State.setNotice_tb (s : State) (h : HostId) (r : NoticeRec) : (s.setNotice h r).tb = s.tb := rfl
@[simp] theorem State.setNotice_entries (s : State) (h : HostId) (r : NoticeRec) : (s.setNotice h r).entries = s.entries := rfl
@[simp] theorem State.setNotice_uses (s : State) (h : HostId) (r : NoticeRec) : (s.setNotice h r).uses = s.uses := rfl
@[simp] theorem State.setNotice_lines (s : State) (h : HostId) (r : NoticeRec) : (s.setNotice h r).lines = s.lines := rfl
@[simp] theorem State.setNotice_claims (s : State) (h : HostId) (r : NoticeRec) : (s.setNotice h r).claims = s.claims := rfl
@[simp] theorem State.setNotice_channels (s : State) (h : HostId) (r : NoticeRec) : (s.setNotice h r).channels = s.channels := rfl
@[simp] theorem State.setNotice_reflexes (s : State) (h : HostId) (r : NoticeRec) : (s.setNotice h r).reflexes = s.reflexes := rfl
@[simp] theorem State.setNotice_notices (s : State) (h : HostId) (r : NoticeRec) : (s.setNotice h r).notices = s.notices.set h r := rfl
@[simp] theorem State.setNotice_sessions (s : State) (h : HostId) (r : NoticeRec) : (s.setNotice h r).sessions = s.sessions := rfl
@[simp] theorem State.setNotice_ports (s : State) (h : HostId) (r : NoticeRec) : (s.setNotice h r).ports = s.ports := rfl
@[simp] theorem State.setNotice_choices (s : State) (h : HostId) (r : NoticeRec) : (s.setNotice h r).choices = s.choices := rfl
@[simp] theorem State.setNotice_pending (s : State) (h : HostId) (r : NoticeRec) : (s.setNotice h r).pending = s.pending := rfl
@[simp] theorem State.setNotice_resetN (s : State) (h : HostId) (r : NoticeRec) : (s.setNotice h r).resetN = s.resetN := rfl

/-! ## setSession -/

@[simp] theorem State.setSession_tb (s : State) (h : HostId) (r : SessionRec) : (s.setSession h r).tb = s.tb := rfl
@[simp] theorem State.setSession_entries (s : State) (h : HostId) (r : SessionRec) : (s.setSession h r).entries = s.entries := rfl
@[simp] theorem State.setSession_uses (s : State) (h : HostId) (r : SessionRec) : (s.setSession h r).uses = s.uses := rfl
@[simp] theorem State.setSession_lines (s : State) (h : HostId) (r : SessionRec) : (s.setSession h r).lines = s.lines := rfl
@[simp] theorem State.setSession_claims (s : State) (h : HostId) (r : SessionRec) : (s.setSession h r).claims = s.claims := rfl
@[simp] theorem State.setSession_channels (s : State) (h : HostId) (r : SessionRec) : (s.setSession h r).channels = s.channels := rfl
@[simp] theorem State.setSession_reflexes (s : State) (h : HostId) (r : SessionRec) : (s.setSession h r).reflexes = s.reflexes := rfl
@[simp] theorem State.setSession_notices (s : State) (h : HostId) (r : SessionRec) : (s.setSession h r).notices = s.notices := rfl
@[simp] theorem State.setSession_sessions (s : State) (h : HostId) (r : SessionRec) : (s.setSession h r).sessions = s.sessions.set h r := rfl
@[simp] theorem State.setSession_ports (s : State) (h : HostId) (r : SessionRec) : (s.setSession h r).ports = s.ports := rfl
@[simp] theorem State.setSession_choices (s : State) (h : HostId) (r : SessionRec) : (s.setSession h r).choices = s.choices := rfl
@[simp] theorem State.setSession_pending (s : State) (h : HostId) (r : SessionRec) : (s.setSession h r).pending = s.pending := rfl
@[simp] theorem State.setSession_resetN (s : State) (h : HostId) (r : SessionRec) : (s.setSession h r).resetN = s.resetN := rfl

/-! ## setPort -/

@[simp] theorem State.setPort_tb (s : State) (p : HostId) (r : PortRec) : (s.setPort p r).tb = s.tb := rfl
@[simp] theorem State.setPort_entries (s : State) (p : HostId) (r : PortRec) : (s.setPort p r).entries = s.entries := rfl
@[simp] theorem State.setPort_uses (s : State) (p : HostId) (r : PortRec) : (s.setPort p r).uses = s.uses := rfl
@[simp] theorem State.setPort_lines (s : State) (p : HostId) (r : PortRec) : (s.setPort p r).lines = s.lines := rfl
@[simp] theorem State.setPort_claims (s : State) (p : HostId) (r : PortRec) : (s.setPort p r).claims = s.claims := rfl
@[simp] theorem State.setPort_channels (s : State) (p : HostId) (r : PortRec) : (s.setPort p r).channels = s.channels := rfl
@[simp] theorem State.setPort_reflexes (s : State) (p : HostId) (r : PortRec) : (s.setPort p r).reflexes = s.reflexes := rfl
@[simp] theorem State.setPort_notices (s : State) (p : HostId) (r : PortRec) : (s.setPort p r).notices = s.notices := rfl
@[simp] theorem State.setPort_sessions (s : State) (p : HostId) (r : PortRec) : (s.setPort p r).sessions = s.sessions := rfl
@[simp] theorem State.setPort_ports (s : State) (p : HostId) (r : PortRec) : (s.setPort p r).ports = s.ports.set p r := rfl
@[simp] theorem State.setPort_choices (s : State) (p : HostId) (r : PortRec) : (s.setPort p r).choices = s.choices := rfl
@[simp] theorem State.setPort_pending (s : State) (p : HostId) (r : PortRec) : (s.setPort p r).pending = s.pending := rfl
@[simp] theorem State.setPort_resetN (s : State) (p : HostId) (r : PortRec) : (s.setPort p r).resetN = s.resetN := rfl

/-! ## setChoices -/

@[simp] theorem State.setChoices_tb (s : State) (n : Nat) : (s.setChoices n).tb = s.tb := rfl
@[simp] theorem State.setChoices_entries (s : State) (n : Nat) : (s.setChoices n).entries = s.entries := rfl
@[simp] theorem State.setChoices_uses (s : State) (n : Nat) : (s.setChoices n).uses = s.uses := rfl
@[simp] theorem State.setChoices_lines (s : State) (n : Nat) : (s.setChoices n).lines = s.lines := rfl
@[simp] theorem State.setChoices_claims (s : State) (n : Nat) : (s.setChoices n).claims = s.claims := rfl
@[simp] theorem State.setChoices_channels (s : State) (n : Nat) : (s.setChoices n).channels = s.channels := rfl
@[simp] theorem State.setChoices_reflexes (s : State) (n : Nat) : (s.setChoices n).reflexes = s.reflexes := rfl
@[simp] theorem State.setChoices_notices (s : State) (n : Nat) : (s.setChoices n).notices = s.notices := rfl
@[simp] theorem State.setChoices_sessions (s : State) (n : Nat) : (s.setChoices n).sessions = s.sessions := rfl
@[simp] theorem State.setChoices_ports (s : State) (n : Nat) : (s.setChoices n).ports = s.ports := rfl
@[simp] theorem State.setChoices_choices (s : State) (n : Nat) : (s.setChoices n).choices = n := rfl
@[simp] theorem State.setChoices_pending (s : State) (n : Nat) : (s.setChoices n).pending = s.pending := rfl
@[simp] theorem State.setChoices_resetN (s : State) (n : Nat) : (s.setChoices n).resetN = s.resetN := rfl

/-! ## setResetN -/

@[simp] theorem State.setResetN_tb (s : State) (v : Level) : (s.setResetN v).tb = s.tb := rfl
@[simp] theorem State.setResetN_entries (s : State) (v : Level) : (s.setResetN v).entries = s.entries := rfl
@[simp] theorem State.setResetN_uses (s : State) (v : Level) : (s.setResetN v).uses = s.uses := rfl
@[simp] theorem State.setResetN_lines (s : State) (v : Level) : (s.setResetN v).lines = s.lines := rfl
@[simp] theorem State.setResetN_claims (s : State) (v : Level) : (s.setResetN v).claims = s.claims := rfl
@[simp] theorem State.setResetN_channels (s : State) (v : Level) : (s.setResetN v).channels = s.channels := rfl
@[simp] theorem State.setResetN_reflexes (s : State) (v : Level) : (s.setResetN v).reflexes = s.reflexes := rfl
@[simp] theorem State.setResetN_notices (s : State) (v : Level) : (s.setResetN v).notices = s.notices := rfl
@[simp] theorem State.setResetN_sessions (s : State) (v : Level) : (s.setResetN v).sessions = s.sessions := rfl
@[simp] theorem State.setResetN_ports (s : State) (v : Level) : (s.setResetN v).ports = s.ports := rfl
@[simp] theorem State.setResetN_choices (s : State) (v : Level) : (s.setResetN v).choices = s.choices := rfl
@[simp] theorem State.setResetN_pending (s : State) (v : Level) : (s.setResetN v).pending = s.pending := rfl
@[simp] theorem State.setResetN_resetN (s : State) (v : Level) : (s.setResetN v).resetN = v := rfl

/-! ## setPending -/

@[simp] theorem State.setPending_tb (s : State) (q : List Instr) : (s.setPending q).tb = s.tb := rfl
@[simp] theorem State.setPending_entries (s : State) (q : List Instr) : (s.setPending q).entries = s.entries := rfl
@[simp] theorem State.setPending_uses (s : State) (q : List Instr) : (s.setPending q).uses = s.uses := rfl
@[simp] theorem State.setPending_lines (s : State) (q : List Instr) : (s.setPending q).lines = s.lines := rfl
@[simp] theorem State.setPending_claims (s : State) (q : List Instr) : (s.setPending q).claims = s.claims := rfl
@[simp] theorem State.setPending_channels (s : State) (q : List Instr) : (s.setPending q).channels = s.channels := rfl
@[simp] theorem State.setPending_reflexes (s : State) (q : List Instr) : (s.setPending q).reflexes = s.reflexes := rfl
@[simp] theorem State.setPending_notices (s : State) (q : List Instr) : (s.setPending q).notices = s.notices := rfl
@[simp] theorem State.setPending_sessions (s : State) (q : List Instr) : (s.setPending q).sessions = s.sessions := rfl
@[simp] theorem State.setPending_ports (s : State) (q : List Instr) : (s.setPending q).ports = s.ports := rfl
@[simp] theorem State.setPending_choices (s : State) (q : List Instr) : (s.setPending q).choices = s.choices := rfl
@[simp] theorem State.setPending_pending (s : State) (q : List Instr) : (s.setPending q).pending = q := rfl
@[simp] theorem State.setPending_resetN (s : State) (q : List Instr) : (s.setPending q).resetN = s.resetN := rfl

/-! ## mapLines -/

@[simp] theorem State.mapLines_tb (s : State) (f : LineId → OutputRec → OutputRec) : (s.mapLines f).tb = s.tb := rfl
@[simp] theorem State.mapLines_entries (s : State) (f : LineId → OutputRec → OutputRec) : (s.mapLines f).entries = s.entries := rfl
@[simp] theorem State.mapLines_uses (s : State) (f : LineId → OutputRec → OutputRec) : (s.mapLines f).uses = s.uses := rfl
@[simp] theorem State.mapLines_lines (s : State) (f : LineId → OutputRec → OutputRec) : (s.mapLines f).lines = Vector.ofFn fun l => f l s.lines[l] := rfl
@[simp] theorem State.mapLines_claims (s : State) (f : LineId → OutputRec → OutputRec) : (s.mapLines f).claims = s.claims := rfl
@[simp] theorem State.mapLines_channels (s : State) (f : LineId → OutputRec → OutputRec) : (s.mapLines f).channels = s.channels := rfl
@[simp] theorem State.mapLines_reflexes (s : State) (f : LineId → OutputRec → OutputRec) : (s.mapLines f).reflexes = s.reflexes := rfl
@[simp] theorem State.mapLines_notices (s : State) (f : LineId → OutputRec → OutputRec) : (s.mapLines f).notices = s.notices := rfl
@[simp] theorem State.mapLines_sessions (s : State) (f : LineId → OutputRec → OutputRec) : (s.mapLines f).sessions = s.sessions := rfl
@[simp] theorem State.mapLines_ports (s : State) (f : LineId → OutputRec → OutputRec) : (s.mapLines f).ports = s.ports := rfl
@[simp] theorem State.mapLines_choices (s : State) (f : LineId → OutputRec → OutputRec) : (s.mapLines f).choices = s.choices := rfl
@[simp] theorem State.mapLines_pending (s : State) (f : LineId → OutputRec → OutputRec) : (s.mapLines f).pending = s.pending := rfl
@[simp] theorem State.mapLines_resetN (s : State) (f : LineId → OutputRec → OutputRec) : (s.mapLines f).resetN = s.resetN := rfl

/-! ## mapChannels -/

@[simp] theorem State.mapChannels_tb (s : State) (f : ChannelId → ChannelRec → ChannelRec) : (s.mapChannels f).tb = s.tb := rfl
@[simp] theorem State.mapChannels_entries (s : State) (f : ChannelId → ChannelRec → ChannelRec) : (s.mapChannels f).entries = s.entries := rfl
@[simp] theorem State.mapChannels_uses (s : State) (f : ChannelId → ChannelRec → ChannelRec) : (s.mapChannels f).uses = s.uses := rfl
@[simp] theorem State.mapChannels_lines (s : State) (f : ChannelId → ChannelRec → ChannelRec) : (s.mapChannels f).lines = s.lines := rfl
@[simp] theorem State.mapChannels_claims (s : State) (f : ChannelId → ChannelRec → ChannelRec) : (s.mapChannels f).claims = s.claims := rfl
@[simp] theorem State.mapChannels_channels (s : State) (f : ChannelId → ChannelRec → ChannelRec) : (s.mapChannels f).channels = Vector.ofFn fun c => f c s.channels[c] := rfl
@[simp] theorem State.mapChannels_reflexes (s : State) (f : ChannelId → ChannelRec → ChannelRec) : (s.mapChannels f).reflexes = s.reflexes := rfl
@[simp] theorem State.mapChannels_notices (s : State) (f : ChannelId → ChannelRec → ChannelRec) : (s.mapChannels f).notices = s.notices := rfl
@[simp] theorem State.mapChannels_sessions (s : State) (f : ChannelId → ChannelRec → ChannelRec) : (s.mapChannels f).sessions = s.sessions := rfl
@[simp] theorem State.mapChannels_ports (s : State) (f : ChannelId → ChannelRec → ChannelRec) : (s.mapChannels f).ports = s.ports := rfl
@[simp] theorem State.mapChannels_choices (s : State) (f : ChannelId → ChannelRec → ChannelRec) : (s.mapChannels f).choices = s.choices := rfl
@[simp] theorem State.mapChannels_pending (s : State) (f : ChannelId → ChannelRec → ChannelRec) : (s.mapChannels f).pending = s.pending := rfl
@[simp] theorem State.mapChannels_resetN (s : State) (f : ChannelId → ChannelRec → ChannelRec) : (s.mapChannels f).resetN = s.resetN := rfl

/-! ## One record of a bank after a replacement -/

theorem State.uses_setUse (s : State) (i j : SlotId) (u : BitVec 9) :
    (s.setUse i u).uses[j] = if j = i then u else s.uses[j] := by
  simp [Vector.getElem_set, Fin.ext_iff, eq_comm]

theorem State.line_setLine (s : State) (l m : LineId) (r : OutputRec) :
    (s.setLine l r).line m = if m = l then r else s.line m := by
  simp [Vector.getElem_set, Fin.ext_iff, eq_comm]

theorem State.claim_setClaim (s : State) (l m : LineId) (r : ClaimRec) :
    (s.setClaim l r).claim m = if m = l then r else s.claim m := by
  simp [Vector.getElem_set, Fin.ext_iff, eq_comm]

theorem State.channel_setChannel (s : State) (c d : ChannelId) (r : ChannelRec) :
    (s.setChannel c r).channel d = if d = c then r else s.channel d := by
  simp [Vector.getElem_set, Fin.ext_iff, eq_comm]

theorem State.reflex_setReflex (s : State) (c d : ChannelId) (r : Option Reflex) :
    (s.setReflex c r).reflex d = if d = c then r else s.reflex d := by
  simp [Vector.getElem_set, Fin.ext_iff, eq_comm]

theorem State.line_mapLines (s : State) (f : LineId → OutputRec → OutputRec) (l : LineId) :
    (s.mapLines f).line l = f l (s.line l) := by
  simp

theorem State.channel_mapChannels (s : State) (f : ChannelId → ChannelRec → ChannelRec) (c : ChannelId) :
    (s.mapChannels f).channel c = f c (s.channel c) := by
  simp

theorem State.noticeRec_setNotice (s : State) (h k : HostId) (r : NoticeRec) :
    (s.setNotice h r).noticeRec k = if k = h then r else s.noticeRec k := Quad.get_set ..

theorem State.session_setSession (s : State) (h k : HostId) (r : SessionRec) :
    (s.setSession h r).session k = if k = h then r else s.session k := Quad.get_set ..

theorem State.port_setPort (s : State) (p q : HostId) (r : PortRec) :
    (s.setPort p r).port q = if q = p then r else s.port q := Quad.get_set ..

/-! ## A record replaced twice, or read back -/

@[simp] theorem State.setTb_setTb (s : State) (t u : Timebase) : (s.setTb t).setTb u = s.setTb u := rfl
@[simp] theorem State.setEntries_setEntries (s : State) (es fs : List Entry) : (s.setEntries es).setEntries fs = s.setEntries fs := rfl
@[simp] theorem State.setChoices_setChoices (s : State) (m n : Nat) : (s.setChoices m).setChoices n = s.setChoices n := rfl
@[simp] theorem State.setNotice_setNotice (s : State) (h : HostId) (r q : NoticeRec) :
    (s.setNotice h r).setNotice h q = s.setNotice h q := by simp [State.setNotice]
@[simp] theorem State.setSession_setSession (s : State) (h : HostId) (r q : SessionRec) :
    (s.setSession h r).setSession h q = s.setSession h q := by simp [State.setSession]
@[simp] theorem State.setPort_setPort (s : State) (p : HostId) (r q : PortRec) : (s.setPort p r).setPort p q = s.setPort p q := by
  simp [State.setPort]
@[simp] theorem State.setLine_setLine (s : State) (l : LineId) (r q : OutputRec) : (s.setLine l r).setLine l q = s.setLine l q := by
  simp [State.setLine]
@[simp] theorem State.setClaim_setClaim (s : State) (l : LineId) (r q : ClaimRec) :
    (s.setClaim l r).setClaim l q = s.setClaim l q := by simp [State.setClaim]
@[simp] theorem State.setChannel_setChannel (s : State) (c : ChannelId) (r q : ChannelRec) :
    (s.setChannel c r).setChannel c q = s.setChannel c q := by simp [State.setChannel]
@[simp] theorem State.setReflex_setReflex (s : State) (c : ChannelId) (r q : Option Reflex) :
    (s.setReflex c r).setReflex c q = s.setReflex c q := by simp [State.setReflex]

@[simp] theorem State.port_setPort_same (s : State) (p : HostId) (r : PortRec) : (s.setPort p r).port p = r :=
  Quad.get_set_same ..
@[simp] theorem State.session_setSession_same (s : State) (h : HostId) (r : SessionRec) : (s.setSession h r).session h = r :=
  Quad.get_set_same ..
@[simp] theorem State.noticeRec_setNotice_same (s : State) (h : HostId) (r : NoticeRec) : (s.setNotice h r).noticeRec h = r :=
  Quad.get_set_same ..
@[simp] theorem State.line_setLine_same (s : State) (l : LineId) (r : OutputRec) : (s.setLine l r).line l = r := by
  simp [State.setLine]
@[simp] theorem State.claim_setClaim_same (s : State) (l : LineId) (r : ClaimRec) : (s.setClaim l r).claim l = r := by
  simp [State.setClaim]
@[simp] theorem State.channel_setChannel_same (s : State) (c : ChannelId) (r : ChannelRec) : (s.setChannel c r).channel c = r := by
  simp [State.setChannel]
@[simp] theorem State.reflex_setReflex_same (s : State) (c : ChannelId) (r : Option Reflex) :
    (s.setReflex c r).reflex c = r := by simp [State.setReflex]

/-- A map of the lines that changes none leaves the state as it is. -/
theorem State.mapLines_id (s : State) (f : LineId → OutputRec → OutputRec) (h : ∀ l r, f l r = r) : s.mapLines f = s := by
  have hl : (Vector.ofFn fun l : LineId => f l s.lines[l]) = s.lines := by
    ext i hi
    simp [h]
  simp only [State.mapLines, hl]

/-- A map of the channels that changes none leaves the state as it is. -/
theorem State.mapChannels_id (s : State) (f : ChannelId → ChannelRec → ChannelRec) (h : ∀ c r, f c r = r) :
    s.mapChannels f = s := by
  have hc : (Vector.ofFn fun c : ChannelId => f c s.channels[c]) = s.channels := by
    ext i hi
    simp [h]
  simp only [State.mapChannels, hc]

@[simp] theorem State.setPending_setPending (s : State) (q r : List Instr) :
    (s.setPending q).setPending r = s.setPending r := rfl

@[simp] theorem State.setPending_self (s : State) : s.setPending s.pending = s := rfl

@[simp] theorem State.setChoices_self (s : State) : s.setChoices s.choices = s := rfl

end Machine

end Sys2Proof
end

