-- ==== Sys2Proof/Laws/Order.lean ====
section
/-! SUPPORT. What the taking of events in an open order can do: it takes every event once, and keeps what each event keeps. -/

namespace Sys2Proof.Machine

/-- The order a number spells is a permutation of the list. -/
theorem permute_perm {α : Type} (n : Nat) (xs : List α) : (permute n xs).Perm xs := by
  induction xs generalizing n with
  | nil => exact .refl _
  | cons x xs ih =>
    have hle : n % (xs.length + 1) ≤ (permute (n / (xs.length + 1)) xs).length := by
      rw [(ih _).length_eq]
      exact Nat.lt_succ_iff.mp (Nat.mod_lt _ (Nat.succ_pos _))
    exact (List.perm_insertIdx x _ hle).trans ((ih _).cons x)

/-- The events in their order are the events. -/
theorem State.inOrder_perm {α : Type} (s : State) (xs : List α) : (s.inOrder xs).1.Perm xs := by
  match xs with
  | [] => exact .refl _
  | [x] => exact .refl _
  | x :: y :: zs => exact permute_perm _ _

/-- Fixing an order changes at most the count of choices. -/
theorem State.inOrder_state {α : Type} (s : State) (xs : List α) : ∃ n, (s.inOrder xs).2 = s.setChoices n := by
  match xs with
  | [] => exact ⟨s.choices, rfl⟩
  | [x] => exact ⟨s.choices, rfl⟩
  | x :: y :: zs => exact ⟨s.choices + 1, rfl⟩

@[simp] theorem State.takeAll_nil {α : Type} (s : State) (take : State → α → State) : s.takeAll [] take = s := rfl

@[simp] theorem State.takeAll_singleton {α : Type} (s : State) (x : α) (take : State → α → State) :
    s.takeAll [x] take = take s x := rfl

/-- A fold keeps what each of its steps keeps. -/
theorem foldl_keeps {α β : Type} (view : State → β) (take : State → α → State) (xs : List α)
    (htake : ∀ s, ∀ x ∈ xs, view (take s x) = view s) (s : State) : view (xs.foldl take s) = view s := by
  induction xs generalizing s with
  | nil => rfl
  | cons x xs ih =>
    rw [List.foldl_cons, ih (fun t y hy => htake t y (List.mem_cons_of_mem x hy)), htake s x List.mem_cons_self]

/-- A fold establishes what holds at its start and is kept by each of its steps. -/
theorem foldl_holds {α : Type} (P : State → Prop) (take : State → α → State) (xs : List α)
    (htake : ∀ s, P s → ∀ x ∈ xs, P (take s x)) (s : State) (hs : P s) : P (xs.foldl take s) := by
  induction xs generalizing s with
  | nil => exact hs
  | cons x xs ih =>
    exact ih (fun t ht y hy => htake t ht y (List.mem_cons_of_mem x hy)) _ (htake s hs x List.mem_cons_self)

/-- Events taken in an open order keep whatever each of them keeps, in whichever order they are taken. -/
theorem State.takeAll_keeps {α β : Type} (view : State → β) (take : State → α → State) (xs : List α)
    (hchoice : ∀ s n, view (s.setChoices n) = view s) (htake : ∀ s, ∀ x ∈ xs, view (take s x) = view s) (s : State) :
    view (s.takeAll xs take) = view s := by
  obtain ⟨n, hn⟩ := s.inOrder_state xs
  have hmem : ∀ t, ∀ x ∈ (s.inOrder xs).1, view (take t x) = view t :=
    fun t x hx => htake t x ((s.inOrder_perm xs).subset hx)
  rw [State.takeAll, foldl_keeps view take _ hmem, hn, hchoice]

/-- What holds before events taken in an open order, and is kept by each of them, holds after all of them. -/
theorem State.takeAll_holds {α : Type} (P : State → Prop) (take : State → α → State) (xs : List α)
    (hchoice : ∀ s n, P s → P (s.setChoices n)) (htake : ∀ s, P s → ∀ x ∈ xs, P (take s x)) (s : State) (hs : P s) :
    P (s.takeAll xs take) := by
  obtain ⟨n, hn⟩ := s.inOrder_state xs
  refine foldl_holds P take _ (fun t ht x hx => htake t ht x ((s.inOrder_perm xs).subset hx)) _ ?_
  rw [hn]
  exact hchoice s n hs

end Sys2Proof.Machine
end

