-- ==== Sys2Proof/Laws/Notices.lean ====
section
/-! SUPPORT. What sending a notice and setting a condition can do: they change the addressed host's notice record and nothing
else, and each leaves that record's attention output settled. -/

namespace Sys2Proof.Machine

/-- Two states agree on everything but the notice records. -/
def SameButNotices (s t : State) : Prop := t = { s with notices := t.notices }

theorem SameButNotices.refl (s : State) : SameButNotices s s := rfl

theorem SameButNotices.trans {s t u : State} (h : SameButNotices s t) (k : SameButNotices t u) : SameButNotices s u := by
  unfold SameButNotices at *
  rw [k, h]

theorem SameButNotices.tb {s t : State} (h : SameButNotices s t) : t.tb = s.tb := by rw [h]
theorem SameButNotices.entries {s t : State} (h : SameButNotices s t) : t.entries = s.entries := by rw [h]
theorem SameButNotices.uses {s t : State} (h : SameButNotices s t) : t.uses = s.uses := by rw [h]
theorem SameButNotices.lines {s t : State} (h : SameButNotices s t) : t.lines = s.lines := by rw [h]
theorem SameButNotices.claims {s t : State} (h : SameButNotices s t) : t.claims = s.claims := by rw [h]
theorem SameButNotices.channels {s t : State} (h : SameButNotices s t) : t.channels = s.channels := by rw [h]
theorem SameButNotices.reflexes {s t : State} (h : SameButNotices s t) : t.reflexes = s.reflexes := by rw [h]
theorem SameButNotices.sessions {s t : State} (h : SameButNotices s t) : t.sessions = s.sessions := by rw [h]
theorem SameButNotices.ports {s t : State} (h : SameButNotices s t) : t.ports = s.ports := by rw [h]
theorem SameButNotices.choices {s t : State} (h : SameButNotices s t) : t.choices = s.choices := by rw [h]
theorem SameButNotices.pending {s t : State} (h : SameButNotices s t) : t.pending = s.pending := by rw [h]
theorem SameButNotices.resetN {s t : State} (h : SameButNotices s t) : t.resetN = s.resetN := by rw [h]

/-- Replacing a host's notice record stores it with its attention output settled. -/
theorem State.putNotices_notices (s : State) (h : HostId) (r : NoticeRec) :
    (s.putNotices h r).notices = s.notices.set h { r with attention := r.wantsAttention (s.session h).isOpen } := by
  simp [State.putNotices, State.settle, State.noticeRec, State.session]

theorem State.putNotices_same (s : State) (h : HostId) (r : NoticeRec) : SameButNotices s (s.putNotices h r) := rfl

/-- A notice to an open session arrives in that host's record, whose attention output is settled; one to a closed session
changes nothing (R136, R146). -/
theorem State.notifyAt_open (s : State) (h : HostId) (stamp : Time) (body : NoticeBody) (ho : (s.session h).isOpen = true) :
    s.notifyAt h stamp body = s.putNotices h ((s.noticeRec h).arrive stamp body) := if_pos ho

theorem State.notifyAt_closed (s : State) (h : HostId) (stamp : Time) (body : NoticeBody) (hc : (s.session h).isOpen = false) :
    s.notifyAt h stamp body = s := by
  simp [State.notifyAt, hc]

theorem State.notifyAt_same (s : State) (h : HostId) (stamp : Time) (body : NoticeBody) :
    SameButNotices s (s.notifyAt h stamp body) := by
  cases ho : (s.session h).isOpen with
  | true => rw [s.notifyAt_open h stamp body ho]; exact s.putNotices_same h _
  | false => rw [s.notifyAt_closed h stamp body ho]; exact .refl s

/-- A notice to one host leaves every other host's record as it is. -/
theorem State.notifyAt_noticeRec_ne (s : State) {h k : HostId} (stamp : Time) (body : NoticeBody) (hne : k ≠ h) :
    (s.notifyAt h stamp body).noticeRec k = s.noticeRec k := by
  cases ho : (s.session h).isOpen with
  | true =>
    rw [s.notifyAt_open h stamp body ho, State.noticeRec, s.putNotices_notices, Quad.get_set_ne _ _ hne]
  | false => rw [s.notifyAt_closed h stamp body ho]

theorem State.notify_same (s : State) (h : HostId) (body : NoticeBody) : SameButNotices s (s.notify h body) :=
  s.notifyAt_same h s.now body

theorem State.notifyEach_same (s : State) (hs : List HostId) (stamp : Time) (body : NoticeBody) :
    SameButNotices s (s.notifyEach hs stamp body) :=
  foldl_holds (SameButNotices s) _ hs (fun t ht h _ => ht.trans (t.notifyAt_same h stamp body)) s (.refl s)

theorem State.alertHost_same (s : State) (h : HostId) : SameButNotices s (s.alertHost h) := by
  unfold State.alertHost
  split
  · exact s.putNotices_same h _
  · exact .refl s

theorem State.alertAll_same (s : State) : SameButNotices s s.alertAll :=
  foldl_holds (SameButNotices s) _ allHosts (fun t ht h _ => ht.trans (t.alertHost_same h)) s (.refl s)

theorem State.flagFrameError_same (s : State) (h : HostId) : SameButNotices s (s.flagFrameError h) := by
  unfold State.flagFrameError
  split
  · exact s.putNotices_same h _
  · exact .refl s

/-- An arriving notice takes the counter's number, and the counter moves on, whether or not the notice finds a place (R137). -/
theorem NoticeRec.arrive_nextNumber (r : NoticeRec) (stamp : Time) (body : NoticeBody) :
    (r.arrive stamp body).nextNumber = r.nextNumber + 1 := by
  unfold NoticeRec.arrive NoticeRec.place NoticeRec.join
  repeat' split
  all_goals rfl

/-- An arrival never leaves a queue fuller than 32, if it was not so before (R139, R140). -/
theorem NoticeRec.arrive_room (r : NoticeRec) (stamp : Time) (body : NoticeBody)
    (hroom : r.held.length ≤ Config.queueCapacity) : (r.arrive stamp body).held.length ≤ Config.queueCapacity := by
  simp only [NoticeRec.arrive, NoticeRec.place, NoticeRec.join, NoticeRec.held, List.length_append] at *
  split
  · split <;> simp only [List.length_append, List.length_singleton] <;> omega
  · split
    · split
      · simpa [NoticeRec.loseOne] using hroom
      · simp_all [NoticeRec.loseOne]
        omega
    · simpa [NoticeRec.loseOne] using hroom

end Sys2Proof.Machine
end

