-- ==== Sys2Proof/Laws/PerInstr.lean ====
section
/-! SUPPORT. Statements about every command as syntax, one lemma per constructor. -/

namespace Sys2Proof.Laws.OperandsInRange

/-- The drive line a command names, if it names one. -/
def namedLine : Instr → Option Nat
  | .pulseEnd line => some line
  | _ => none

/-- The sense channel a command names, if it names one. -/
def namedChannel : Instr → Option Nat
  | .senseEdge channel _ => some channel
  | .capture channel _ => some channel
  | _ => none

/-- A command is well formed exactly when the drive line it names is one of D0 to D11 and the sense channel it names is one of S0
to S7 (section 0.4). -/
def Statement (i : Instr) : Prop :=
  i.wellFormed = true ↔ (∀ l ∈ namedLine i, l < 12) ∧ (∀ c ∈ namedChannel i, c < 8)

/-- A command that names neither is well formed. -/
theorem anyPins {i : Instr} (wf : i.wellFormed = true) (line : namedLine i = none) (channel : namedChannel i = none) :
    Statement i := by
  refine ⟨fun _ => ⟨?_, ?_⟩, fun _ => wf⟩
  · rw [line]
    exact nofun
  · rw [channel]
    exact nofun

theorem chipSelectFalling (p : HostId) : Statement (.chipSelectFalling p) := anyPins rfl rfl rfl
theorem transactionEnd (p : HostId) : Statement (.transactionEnd p) := anyPins rfl rfl rfl
theorem transactionAbandoned (p : HostId) : Statement (.transactionAbandoned p) := anyPins rfl rfl rfl
theorem badOpcodeFrame (p : HostId) : Statement (.badOpcodeFrame p) := anyPins rfl rfl rfl
theorem nop (p : HostId) : Statement (.nop p) := anyPins rfl rfl rfl
theorem openSession (p : HostId) : Statement (.openSession p) := anyPins rfl rfl rfl
theorem closeSession (p : HostId) : Statement (.closeSession p) := anyPins rfl rfl rfl
theorem portReset (p : HostId) : Statement (.portReset p) := anyPins rfl rfl rfl
theorem hostStatus (p : HostId) : Statement (.hostStatus p) := anyPins rfl rfl rfl
theorem ident (p : HostId) : Statement (.ident p) := anyPins rfl rfl rfl
theorem readNotices (p : HostId) : Statement (.readNotices p) := anyPins rfl rfl rfl
theorem setNoticeMaps (p : HostId) : Statement (.setNoticeMaps p) := anyPins rfl rfl rfl
theorem ackConditions (p : HostId) : Statement (.ackConditions p) := anyPins rfl rfl rfl
theorem tbHold (p : HostId) : Statement (.tbHold p) := anyPins rfl rfl rfl
theorem tbRelease (p : HostId) : Statement (.tbRelease p) := anyPins rfl rfl rfl
theorem tbStart (p : HostId) : Statement (.tbStart p) := anyPins rfl rfl rfl
theorem tbStop (p : HostId) : Statement (.tbStop p) := anyPins rfl rfl rfl
theorem tbSetFrame (p : HostId) : Statement (.tbSetFrame p) := anyPins rfl rfl rfl
theorem tbSetSync (p : HostId) : Statement (.tbSetSync p) := anyPins rfl rfl rfl
theorem tbSetPrescale (p : HostId) : Statement (.tbSetPrescale p) := anyPins rfl rfl rfl
theorem readTime (p : HostId) : Statement (.readTime p) := anyPins rfl rfl rfl
theorem tbStatus (p : HostId) : Statement (.tbStatus p) := anyPins rfl rfl rfl
theorem schedule (p : HostId) : Statement (.schedule p) := anyPins rfl rfl rfl
theorem cancel (p : HostId) : Statement (.cancel p) := anyPins rfl rfl rfl
theorem cancelGroup (p : HostId) : Statement (.cancelGroup p) := anyPins rfl rfl rfl
theorem queryEntry (p : HostId) : Statement (.queryEntry p) := anyPins rfl rfl rfl
theorem scheduleStatus (p : HostId) : Statement (.scheduleStatus p) := anyPins rfl rfl rfl
theorem claim (p : HostId) : Statement (.claim p) := anyPins rfl rfl rfl
theorem release (p : HostId) : Statement (.release p) := anyPins rfl rfl rfl
theorem lineSetup (p : HostId) : Statement (.lineSetup p) := anyPins rfl rfl rfl
theorem outputHold (p : HostId) : Statement (.outputHold p) := anyPins rfl rfl rfl
theorem outputForce (p : HostId) : Statement (.outputForce p) := anyPins rfl rfl rfl
theorem outputFollow (p : HostId) : Statement (.outputFollow p) := anyPins rfl rfl rfl
theorem lineStatus (p : HostId) : Statement (.lineStatus p) := anyPins rfl rfl rfl
theorem senseSetup (p : HostId) : Statement (.senseSetup p) := anyPins rfl rfl rfl
theorem subscribe (p : HostId) : Statement (.subscribe p) := anyPins rfl rfl rfl
theorem unsubscribe (p : HostId) : Statement (.unsubscribe p) := anyPins rfl rfl rfl
theorem senseRearm (p : HostId) : Statement (.senseRearm p) := anyPins rfl rfl rfl
theorem senseStatus (p : HostId) : Statement (.senseStatus p) := anyPins rfl rfl rfl
theorem reflexSet (p : HostId) : Statement (.reflexSet p) := anyPins rfl rfl rfl
theorem reflexClear (p : HostId) : Statement (.reflexClear p) := anyPins rfl rfl rfl
theorem silenceExpiry (h : HostId) : Statement (.silenceExpiry h) := anyPins rfl rfl rfl
theorem tick : Statement .tick := anyPins rfl rfl rfl
theorem pulseEnd (line : Nat) : Statement (.pulseEnd line) :=
  ⟨fun h => ⟨fun _ e => Option.some.inj e ▸ of_decide_eq_true h, nofun⟩, fun h => decide_eq_true (h.1 _ rfl)⟩
theorem naturalWrap : Statement .naturalWrap := anyPins rfl rfl rfl
theorem runLimit : Statement .runLimit := anyPins rfl rfl rfl
theorem syncLost : Statement .syncLost := anyPins rfl rfl rfl
theorem syncEdge : Statement .syncEdge := anyPins rfl rfl rfl
theorem refLost : Statement .refLost := anyPins rfl rfl rfl
theorem refBack : Statement .refBack := anyPins rfl rfl rfl
theorem senseEdge (channel : Nat) (level : Level) : Statement (.senseEdge channel level) :=
  ⟨fun h => ⟨nofun, fun _ e => Option.some.inj e ▸ of_decide_eq_true h⟩, fun h => decide_eq_true (h.2 _ rfl)⟩
theorem capture (channel : Nat) (level : Level) : Statement (.capture channel level) :=
  ⟨fun h => ⟨nofun, fun _ e => Option.some.inj e ▸ of_decide_eq_true h⟩, fun h => decide_eq_true (h.2 _ rfl)⟩
theorem deviceReset (pins : ResetPins) (senses : BitVec 8) : Statement (.deviceReset pins senses) := anyPins rfl rfl rfl
theorem spiClockEdge (p : HostId) (edge : ClockEdge) (sdi : Level) : Statement (.spiClockEdge p edge sdi) := anyPins rfl rfl rfl
theorem refclkCycle : Statement .refclkCycle := anyPins rfl rfl rfl

end Sys2Proof.Laws.OperandsInRange
end

