-- ==== Sys2Proof/Laws/Ports.lean ====
section
/-! SUPPORT. What taking a frame can do: the cases of `takeRequest`, said once, and the frames of the steps it is made of. -/

namespace Sys2Proof.Machine

open Sys2Proof.Safety

/-! ## The reply -/

@[simp] theorem State.placeReply_tb (s : State) (p : HostId) (tag : Byte) (st : Status) (bs : List Byte) :
    (s.placeReply p tag st bs).tb = s.tb := rfl
@[simp] theorem State.placeReply_entries (s : State) (p : HostId) (tag : Byte) (st : Status) (bs : List Byte) :
    (s.placeReply p tag st bs).entries = s.entries := rfl
@[simp] theorem State.placeReply_uses (s : State) (p : HostId) (tag : Byte) (st : Status) (bs : List Byte) :
    (s.placeReply p tag st bs).uses = s.uses := rfl
@[simp] theorem State.placeReply_lines (s : State) (p : HostId) (tag : Byte) (st : Status) (bs : List Byte) :
    (s.placeReply p tag st bs).lines = s.lines := rfl
@[simp] theorem State.placeReply_claims (s : State) (p : HostId) (tag : Byte) (st : Status) (bs : List Byte) :
    (s.placeReply p tag st bs).claims = s.claims := rfl
@[simp] theorem State.placeReply_channels (s : State) (p : HostId) (tag : Byte) (st : Status) (bs : List Byte) :
    (s.placeReply p tag st bs).channels = s.channels := rfl
@[simp] theorem State.placeReply_reflexes (s : State) (p : HostId) (tag : Byte) (st : Status) (bs : List Byte) :
    (s.placeReply p tag st bs).reflexes = s.reflexes := rfl
@[simp] theorem State.placeReply_notices (s : State) (p : HostId) (tag : Byte) (st : Status) (bs : List Byte) :
    (s.placeReply p tag st bs).notices = s.notices := rfl
@[simp] theorem State.placeReply_sessions (s : State) (p : HostId) (tag : Byte) (st : Status) (bs : List Byte) :
    (s.placeReply p tag st bs).sessions = s.sessions := rfl
@[simp] theorem State.placeReply_choices (s : State) (p : HostId) (tag : Byte) (st : Status) (bs : List Byte) :
    (s.placeReply p tag st bs).choices = s.choices := rfl
@[simp] theorem State.placeReply_pending (s : State) (p : HostId) (tag : Byte) (st : Status) (bs : List Byte) :
    (s.placeReply p tag st bs).pending = s.pending := rfl

/-- A placed reply stands in its port's slot, unread (R174). -/
theorem State.placeReply_port_same (s : State) (p : HostId) (tag : Byte) (st : Status) (bs : List Byte) :
    (s.placeReply p tag st bs).ports.get p =
      { s.ports.get p with
        slot := some
          { status := st, tag, prevUnread := (s.ports.get p).prevUnread, noticesHeld := (s.notices.get p).anyHeld,
            attention := (s.notices.get p).attention, payload := bs }
        unread := true } := by
  simp [State.placeReply]

theorem State.placeReply_port_ne (s : State) {p k : HostId} (tag : Byte) (st : Status) (bs : List Byte) (hne : k ≠ p) :
    (s.placeReply p tag st bs).ports.get k = s.ports.get k := by
  simp [State.placeReply, Quad.get_set_ne _ _ hne]

/-! ## The arrival of a frame -/

/-- The state in which a well-formed frame is answered (R158, R168, R172). -/
theorem State.arrived_eq (s : State) (p : HostId) : (s.endTransaction p).restartSilence p = arrived s p := by
  change (transactionOver s p).setSession p (s.session p).restartTimer = _
  simp only [arrived, SessionRec.restartTimer, Bool.and_eq_true, decide_eq_true_eq]

@[simp] theorem State.arrived_tb (s : State) (p : HostId) : (arrived s p).tb = s.tb := rfl
@[simp] theorem State.arrived_entries (s : State) (p : HostId) : (arrived s p).entries = s.entries := rfl
@[simp] theorem State.arrived_uses (s : State) (p : HostId) : (arrived s p).uses = s.uses := rfl
@[simp] theorem State.arrived_lines (s : State) (p : HostId) : (arrived s p).lines = s.lines := rfl
@[simp] theorem State.arrived_claims (s : State) (p : HostId) : (arrived s p).claims = s.claims := rfl
@[simp] theorem State.arrived_channels (s : State) (p : HostId) : (arrived s p).channels = s.channels := rfl
@[simp] theorem State.arrived_reflexes (s : State) (p : HostId) : (arrived s p).reflexes = s.reflexes := rfl
@[simp] theorem State.arrived_notices (s : State) (p : HostId) : (arrived s p).notices = s.notices := rfl
@[simp] theorem State.arrived_choices (s : State) (p : HostId) : (arrived s p).choices = s.choices := rfl
@[simp] theorem State.arrived_pending (s : State) (p : HostId) : (arrived s p).pending = s.pending := rfl

/-- An arrival opens and closes no session. -/
@[simp] theorem State.arrived_isOpen (s : State) (p h : HostId) :
    ((arrived s p).sessions.get h).isOpen = (s.sessions.get h).isOpen := by
  simp only [arrived, State.setSession_sessions, Quad.get_set]
  by_cases hh : h = p
  · subst hh; simp only [if_true]; split <;> rfl
  · simp [hh, transactionOver]

/-- An arrival restarts a timer and changes no other item of a session (R158). -/
theorem State.arrived_session (s : State) (p h : HostId) :
    (arrived s p).sessions.get h = { s.sessions.get h with timer := ((arrived s p).sessions.get h).timer } := by
  simp only [arrived, State.setSession_sessions, Quad.get_set]
  by_cases hh : h = p
  · subst hh; simp only [if_true]; split <;> rfl
  · simp [hh, transactionOver]

theorem State.arrived_port_ne (s : State) {p k : HostId} (hne : k ≠ p) : (arrived s p).ports.get k = s.ports.get k := by
  simp [arrived, transactionOver, Quad.get_set_ne _ _ hne]

/-- An arrival ends the transaction and settles the read-out (R168, R169). -/
theorem State.arrived_port_same (s : State) (p : HostId) :
    (arrived s p).ports.get p = { (s.ports.get p).readOut with transaction := .idle } := by
  simp [arrived, transactionOver, PortRec.readOut]

/-! ## The cases of a request -/

/-- Without a complete frame of its row, a request has no event (log entry 3). -/
theorem State.takeRequest_none (s : State) (p : HostId) (row : RequestRow) (block : Block) (hf : s.takenFrame p = none) :
    s.takeRequest p row block = s := by
  simp [State.takeRequest, hf]

theorem State.takeRequest_other (s : State) (p : HostId) (row : RequestRow) (block : Block) (f : RequestFrame)
    (hf : s.takenFrame p = some f) (hc : f.opcode.toNat ≠ row.code) : s.takeRequest p row block = s := by
  simp [State.takeRequest, hf, hc]

/-- A frame that fails its CRC is answered BAD_CRC (R172). -/
theorem State.takeRequest_unsound (s : State) (p : HostId) (row : RequestRow) (block : Block) (f : RequestFrame)
    (hf : s.takenFrame p = some f) (hc : f.opcode.toNat = row.code) (hs : f.sound = false) :
    s.takeRequest p row block = (s.endTransaction p).answerBadCrc p f.tag := by
  simp [State.takeRequest, hf, hc, hs]

/-- A well-formed frame of the row is answered on arrival (R173). -/
theorem State.takeRequest_sound (s : State) (p : HostId) (row : RequestRow) (block : Block) (f : RequestFrame)
    (hf : s.takenFrame p = some f) (hc : f.opcode.toNat = row.code) (hs : f.sound = true) :
    s.takeRequest p row block = (arrived s p).answerFrame p f row block := by
  simp [State.takeRequest, hf, hc, hs, s.arrived_eq p]

/-- Checks 3 and 4 passed, the block answers (R173). -/
theorem State.answerFrame_block (s : State) (p : HostId) (f : RequestFrame) (row : RequestRow) (block : Block)
    (hl : f.payload.length = row.length) (ho : row.sessionless = true ∨ (s.sessions.get p).isOpen = true) :
    s.answerFrame p f row block =
      (block p f.payload s).state.placeReply p f.tag (block p f.payload s).status (block p f.payload s).payload := by
  rcases ho with ho | ho <;> simp [State.answerFrame, hl, ho]

/-- Everything a request can do: nothing, a BAD_CRC answer, a refusal of the port's own, or the answer of its block to the payload
of a frame of the length of its row, in a session unless it needs none. -/
theorem State.takeRequest_cases (s : State) (p : HostId) (row : RequestRow) (block : Block) :
    s.takeRequest p row block = s ∨
      ∃ f, s.takenFrame p = some f ∧ f.opcode.toNat = row.code ∧
        (f.sound = false ∧ s.takeRequest p row block = (s.endTransaction p).answerBadCrc p f.tag ∨
          f.sound = true ∧
            ((∃ st, (st = .badLength ∨ st = .noSession) ∧
                s.takeRequest p row block = (arrived s p).placeReply p f.tag st []) ∨
              f.payload.length = row.length ∧ (row.sessionless = true ∨ (s.sessions.get p).isOpen = true) ∧
                s.takeRequest p row block =
                  (block p f.payload (arrived s p)).state.placeReply p f.tag (block p f.payload (arrived s p)).status
                    (block p f.payload (arrived s p)).payload)) := by
  cases hf : s.takenFrame p with
  | none => exact .inl (s.takeRequest_none p row block hf)
  | some f =>
    by_cases hc : f.opcode.toNat = row.code
    · refine .inr ⟨f, rfl, hc, ?_⟩
      cases hs : f.sound with
      | false => exact .inl ⟨rfl, s.takeRequest_unsound p row block f hf hc hs⟩
      | true =>
        refine .inr ⟨rfl, ?_⟩
        rw [s.takeRequest_sound p row block f hf hc hs]
        by_cases hl : f.payload.length = row.length
        · by_cases ho : row.sessionless = true ∨ (s.sessions.get p).isOpen = true
          · exact .inr ⟨hl, ho, State.answerFrame_block _ p f row block hl (by simpa using ho)⟩
          · refine .inl ⟨.noSession, .inr rfl, ?_⟩
            simp only [not_or, Bool.not_eq_true] at ho
            simp [State.answerFrame, hl, ho.1, ho.2, State.session]
        · exact .inl ⟨.badLength, .inl rfl, by simp [State.answerFrame, hl]⟩
    · exact .inl (s.takeRequest_other p row block f hf hc)

end Sys2Proof.Machine
end

