-- ==== Sys2Proof/Laws/Receives.lean ====
section
/-! SUPPORT. What a host has been sent, put together: nothing, one notice, and one run of notices behind another. -/

namespace Sys2Proof.Safety

open Sys2Proof.Machine

/-- What an arrival makes of a host's record depends on that record and on whether the host's session is open, and on nothing else. -/
theorem notifyAt_noticeRec_congr {s u : State} {h : HostId} (hrec : s.noticeRec h = u.noticeRec h)
    (hopen : (s.session h).isOpen = (u.session h).isOpen) (stamp : Time) (body : NoticeBody) :
    (s.notifyAt h stamp body).noticeRec h = (u.notifyAt h stamp body).noticeRec h := by
  have put (v : State) (r : NoticeRec) :
      (v.putNotices h r).noticeRec h = { r with attention := r.wantsAttention (v.session h).isOpen } := by
    rw [State.noticeRec, v.putNotices_notices, Quad.get_set_same]
  cases ho : (u.session h).isOpen with
  | true => rw [s.notifyAt_open h stamp body (hopen.trans ho), u.notifyAt_open h stamp body ho, put, put, hrec, hopen]
  | false => rw [s.notifyAt_closed h stamp body (hopen.trans ho), u.notifyAt_closed h stamp body ho, hrec]

/-- The same for a run of arrivals. -/
theorem foldl_notifyAt_noticeRec_congr {s u : State} {h : HostId} (news : List (Time × NoticeBody))
    (hrec : s.noticeRec h = u.noticeRec h) (hopen : (s.session h).isOpen = (u.session h).isOpen) :
    (news.foldl (fun v n => v.notifyAt h n.1 n.2) s).noticeRec h =
      (news.foldl (fun v n => v.notifyAt h n.1 n.2) u).noticeRec h := by
  induction news generalizing s u with
  | nil => exact hrec
  | cons n news ih =>
    have same (v : State) : (v.notifyAt h n.1 n.2).session h = v.session h := by
      rw [State.session, (v.notifyAt_same h n.1 n.2).sessions]
    exact ih (notifyAt_noticeRec_congr hrec hopen n.1 n.2) (by rw [same, same]; exact hopen)

/-- A host whose record stands has been sent nothing. -/
theorem Receives.nothing {s t : State} {h : HostId} (hrec : t.noticeRec h = s.noticeRec h) : Receives s t h [] := hrec

/-- A notice sent to a host is the one it has been sent. -/
theorem Receives.one (s : State) (h : HostId) (stamp : Time) (body : NoticeBody) :
    Receives s (s.notifyAt h stamp body) h [(stamp, body)] := rfl

/-- What is sent to a host behind what it was sent before, its session standing. -/
theorem Receives.append {s t u : State} {h : HostId} {first second : List (Time × NoticeBody)} (hfirst : Receives s t h first)
    (hopen : (t.session h).isOpen = (s.session h).isOpen) (hsecond : Receives t u h second) :
    Receives s u h (first ++ second) := by
  have same : (first.foldl (fun v n => v.notifyAt h n.1 n.2) s).sessions = s.sessions :=
    foldl_keeps State.sessions _ first (fun v n _ => (v.notifyAt_same h n.1 n.2).sessions) s
  unfold Receives at *
  rw [List.foldl_append, hsecond]
  refine foldl_notifyAt_noticeRec_congr second hfirst (hopen.trans ?_)
  rw [State.session, State.session, same]

/-- A notice to each host of a list without repeats reaches every host of the list once, and no other. -/
theorem Receives.each (s : State) (hs : List HostId) (hnodup : hs.Nodup) (stamp : Time) (body : NoticeBody) (k : HostId) :
    Receives s (s.notifyEach hs stamp body) k (if k ∈ hs then [(stamp, body)] else []) := by
  have sess (t : State) (h : HostId) : ((t.notifyAt h stamp body).session k) = t.session k := by
    rw [State.session, (t.notifyAt_same h stamp body).sessions]
  induction hs generalizing s with
  | nil => exact .nothing rfl
  | cons h hs ih =>
    obtain ⟨hout, hnodup⟩ := List.nodup_cons.mp hnodup
    have rest : Receives (s.notifyAt h stamp body) (s.notifyEach (h :: hs) stamp body) k (if k ∈ hs then [(stamp, body)] else []) :=
      ih (s.notifyAt h stamp body) hnodup
    by_cases hk : k = h
    · subst hk
      rw [if_neg hout] at rest
      simpa using (Receives.one s k stamp body).append (by rw [sess]) rest
    · have := (Receives.nothing (s.notifyAt_noticeRec_ne stamp body hk)).append (by rw [sess]) rest
      simpa [hk] using this

end Sys2Proof.Safety
end

