-- ==== Sys2Proof/Laws/Schedule.lean ====
section
/-! SUPPORT. What the operations of the schedule can do: leaving the list, removals, placing, free slots and firing, each said
once. -/

namespace Sys2Proof.Machine

/-- Two states agree on everything but the entry list, the use counts and the notice records. -/
def SameButEntries (s t : State) : Prop := t = { s with entries := t.entries, uses := t.uses, notices := t.notices }

theorem SameButEntries.refl (s : State) : SameButEntries s s := rfl

theorem SameButEntries.trans {s t u : State} (h : SameButEntries s t) (k : SameButEntries t u) : SameButEntries s u := by
  unfold SameButEntries at *
  rw [k, h]

theorem SameButNotices.butEntries {s t : State} (h : SameButNotices s t) : SameButEntries s t := by
  unfold SameButNotices SameButEntries at *
  rw [h]

theorem SameButEntries.tb {s t : State} (h : SameButEntries s t) : t.tb = s.tb := by rw [h]
theorem SameButEntries.lines {s t : State} (h : SameButEntries s t) : t.lines = s.lines := by rw [h]
theorem SameButEntries.claims {s t : State} (h : SameButEntries s t) : t.claims = s.claims := by rw [h]
theorem SameButEntries.channels {s t : State} (h : SameButEntries s t) : t.channels = s.channels := by rw [h]
theorem SameButEntries.reflexes {s t : State} (h : SameButEntries s t) : t.reflexes = s.reflexes := by rw [h]
theorem SameButEntries.sessions {s t : State} (h : SameButEntries s t) : t.sessions = s.sessions := by rw [h]
theorem SameButEntries.ports {s t : State} (h : SameButEntries s t) : t.ports = s.ports := by rw [h]
theorem SameButEntries.choices {s t : State} (h : SameButEntries s t) : t.choices = s.choices := by rw [h]
theorem SameButEntries.pending {s t : State} (h : SameButEntries s t) : t.pending = s.pending := by rw [h]
theorem SameButEntries.resetN {s t : State} (h : SameButEntries s t) : t.resetN = s.resetN := by rw [h]

/-! ## Leaving the list -/

theorem State.leave_same (s : State) (e : Entry) : SameButEntries s (s.leave e) := rfl

@[simp] theorem State.leave_notices (s : State) (e : Entry) : (s.leave e).notices = s.notices := rfl
@[simp] theorem State.leave_sessions (s : State) (e : Entry) : (s.leave e).sessions = s.sessions := rfl

/-- With one entry to a slot, erasing the first entry of a slot erases every one. -/
theorem eraseP_slot (es : List Entry) (i : SlotId) (hn : (es.map fun e => e.handle.slot).Nodup) :
    es.eraseP (fun x => decide (x.handle.slot = i)) = es.filter fun x => decide (x.handle.slot ≠ i) := by
  induction es with
  | nil => rfl
  | cons x xs ih =>
    simp only [List.map_cons, List.nodup_cons] at hn
    by_cases hx : x.handle.slot = i
    · have hrest : xs.filter (fun y => decide (y.handle.slot ≠ i)) = xs :=
        List.filter_eq_self.2 fun y hy => by
          simp only [ne_eq, decide_eq_true_eq]
          intro hyi
          exact hn.1 (List.mem_map.2 ⟨y, hy, hyi.trans hx.symm⟩)
      simp only [List.eraseP_cons, hx, decide_true, cond_true, ne_eq, not_true_eq_false, decide_false, Bool.false_eq_true,
        not_false_eq_true, List.filter_cons_of_neg]
      exact hrest.symm
    · simp [hx, ih hn.2]

/-- An entry that leaves takes its slot out of the list (R2). -/
theorem State.leave_entries (s : State) (e : Entry) (hn : (s.entries.map fun e => e.handle.slot).Nodup) :
    (s.leave e).entries = s.entries.filter fun x => decide (x.handle.slot ≠ e.handle.slot) :=
  eraseP_slot s.entries e.handle.slot hn

/-- Its slot's use count rises by 1, and no other (R2). -/
theorem State.leave_uses (s : State) (e : Entry) (i : SlotId) :
    (s.leave e).uses[i] = if i = e.handle.slot then s.uses[i] + 1 else s.uses[i] := by
  simp only [State.leave, State.setUse, State.setEntries, Fin.getElem_fin, Vector.getElem_set]
  by_cases h : i = e.handle.slot
  · simp [h]
  · have : e.handle.slot.val ≠ i.val := fun hv => h (Fin.ext hv.symm)
    simp [h, this]

/-! ## Removals -/

/-- One removal, with its notice. -/
def State.removeOne (news : Handle → Option NoticeBody) (s : State) (e : Entry) : State :=
  match news e.handle with
  | none => s.leave e
  | some body => (s.leave e).notify e.owner body

theorem State.removeEntries_fold (s : State) (goes : Entry → Bool) (news : Handle → Option NoticeBody) :
    s.removeEntries goes news = (s.entries.filter goes).foldl (State.removeOne news) s := rfl

theorem State.removeOne_same (news : Handle → Option NoticeBody) (s : State) (e : Entry) :
    SameButEntries s (s.removeOne news e) := by
  unfold State.removeOne
  split
  · exact s.leave_same e
  · exact (s.leave_same e).trans ((s.leave e).notify_same _ _).butEntries

theorem State.removeOne_entries (news : Handle → Option NoticeBody) (s : State) (e : Entry) :
    (s.removeOne news e).entries = (s.leave e).entries := by
  unfold State.removeOne
  split
  · rfl
  · exact ((s.leave e).notify_same _ _).entries

theorem State.removeOne_uses (news : Handle → Option NoticeBody) (s : State) (e : Entry) :
    (s.removeOne news e).uses = (s.leave e).uses := by
  unfold State.removeOne
  split
  · rfl
  · exact ((s.leave e).notify_same _ _).uses

/-- A removal touches nothing but the list, the use counts and the notices. -/
theorem State.removeEntries_same (s : State) (goes : Entry → Bool) (news : Handle → Option NoticeBody) :
    SameButEntries s (s.removeEntries goes news) := by
  rw [s.removeEntries_fold]
  exact foldl_holds (SameButEntries s) _ _ (fun t ht e _ => ht.trans (t.removeOne_same news e)) s (.refl s)

theorem State.removeAll_entries (news : Handle → Option NoticeBody) (gone : List Entry) (s : State)
    (hn : (s.entries.map fun e => e.handle.slot).Nodup) :
    (gone.foldl (State.removeOne news) s).entries =
      s.entries.filter fun x => decide (x.handle.slot ∉ gone.map fun e => e.handle.slot) := by
  induction gone generalizing s with
  | nil => simp
  | cons e rest ih =>
    have hn' : ((s.removeOne news e).entries.map fun e => e.handle.slot).Nodup := by
      rw [s.removeOne_entries news e, s.leave_entries e hn]
      exact hn.sublist (List.Sublist.map _ List.filter_sublist)
    rw [List.foldl_cons, ih _ hn', s.removeOne_entries news e, s.leave_entries e hn, List.filter_filter]
    refine List.filter_congr fun x _ => ?_
    simp only [List.map_cons, List.mem_cons, not_or, Bool.decide_and, ne_eq]
    exact Bool.and_comm _ _

/-- The entries a removal names leave the list, and no other (R21, R24, R26, R28, R29). -/
theorem State.removeEntries_entries (s : State) (goes : Entry → Bool) (news : Handle → Option NoticeBody)
    (hn : (s.entries.map fun e => e.handle.slot).Nodup) :
    (s.removeEntries goes news).entries = s.entries.filter fun x => !goes x := by
  rw [s.removeEntries_fold, State.removeAll_entries news _ s hn]
  refine List.filter_congr fun x hx => ?_
  cases hg : goes x with
  | true =>
    have : x.handle.slot ∈ (s.entries.filter goes).map fun e => e.handle.slot :=
      List.mem_map.2 ⟨x, List.mem_filter.2 ⟨hx, hg⟩, rfl⟩
    simp only [this, not_true_eq_false, decide_false, Bool.not_true]
  | false =>
    have : x.handle.slot ∉ (s.entries.filter goes).map fun e => e.handle.slot := by
      intro hm
      obtain ⟨y, hy, hyx⟩ := List.mem_map.1 hm
      obtain ⟨hy1, hy2⟩ := List.mem_filter.1 hy
      have := List.inj_on_of_nodup_map hn hy1 hx hyx
      rw [this, hg] at hy2
      cases hy2
    simp only [this, not_false_eq_true, decide_true, Bool.not_false]

theorem State.removeAll_uses (news : Handle → Option NoticeBody) (gone : List Entry) (s : State)
    (hn : (gone.map fun e => e.handle.slot).Nodup) (i : SlotId) :
    (gone.foldl (State.removeOne news) s).uses[i] =
      if i ∈ gone.map fun e => e.handle.slot then s.uses[i] + 1 else s.uses[i] := by
  induction gone generalizing s with
  | nil => simp
  | cons e rest ih =>
    simp only [List.map_cons, List.nodup_cons] at hn
    rw [List.foldl_cons, ih _ hn.2, s.removeOne_uses news e, s.leave_uses e i]
    simp only [List.map_cons, List.mem_cons]
    by_cases hi : i = e.handle.slot
    · have : i ∉ rest.map fun e => e.handle.slot := hi ▸ hn.1
      simp only [hi, true_or, if_true]
      rw [if_neg (hi ▸ this)]
    · simp only [hi, false_or, if_false]

/-- The use count of a slot rises by 1 exactly when its entry has left (R2). -/
theorem State.removeEntries_slotsFollow (s : State) (goes : Entry → Bool) (news : Handle → Option NoticeBody)
    (hn : (s.entries.map fun e => e.handle.slot).Nodup) : Safety.SlotsFollow s (s.removeEntries goes news) := by
  intro i
  have hsub : ((s.entries.filter goes).map fun e => e.handle.slot).Nodup :=
    hn.sublist (List.Sublist.map _ List.filter_sublist)
  rw [s.removeEntries_entries goes news hn]
  rw [s.removeEntries_fold, State.removeAll_uses news _ s hsub i]
  refine if_congr ?_ rfl rfl
  simp only [List.mem_map, List.mem_filter]
  constructor
  · rintro ⟨e, ⟨he, hg⟩, rfl⟩
    refine ⟨⟨e, he, rfl⟩, ?_⟩
    rintro x ⟨hx, hgx⟩ hxe
    have := List.inj_on_of_nodup_map hn hx he hxe
    rw [this, hg] at hgx
    cases hgx
  · rintro ⟨⟨e, he, rfl⟩, hall⟩
    refine ⟨e, ⟨he, ?_⟩, rfl⟩
    by_contra hg
    exact hall e ⟨he, by simpa using hg⟩ rfl

/-- A notice to a host moves that host's counter on, if its session is open, and no other's (R136, R137). -/
theorem State.notifyAt_nextNumber (s : State) (h k : HostId) (stamp : Time) (body : NoticeBody) :
    ((s.notifyAt h stamp body).notices.get k).nextNumber =
      if k = h ∧ (s.sessions.get h).isOpen = true then (s.notices.get k).nextNumber + 1 else (s.notices.get k).nextNumber := by
  by_cases hk : k = h
  · subst hk
    cases ho : (s.sessions.get k).isOpen with
    | true =>
      rw [s.notifyAt_open k stamp body ho, State.putNotices_notices]
      simp [NoticeRec.arrive_nextNumber, State.noticeRec]
    | false => rw [s.notifyAt_closed k stamp body ho]; simp
  · have := s.notifyAt_noticeRec_ne stamp body hk
    simp only [State.noticeRec] at this
    simp [this, hk]

theorem State.removeAll_nextNumber (news : Handle → NoticeBody) (gone : List Entry) (s : State) (h : HostId)
    (ho : (s.sessions.get h).isOpen = true) :
    ((gone.foldl (State.removeOne fun x => some (news x)) s).notices.get h).nextNumber =
      (s.notices.get h).nextNumber + BitVec.ofNat 8 (gone.countP fun e => decide (e.owner = h)) := by
  induction gone generalizing s with
  | nil => simp
  | cons e rest ih =>
    have hs : (s.removeOne (fun x => some (news x)) e).sessions = s.sessions := (s.removeOne_same _ e).sessions
    rw [List.foldl_cons, ih _ (by rw [hs]; exact ho)]
    simp only [State.removeOne, State.notify, State.notifyAt_nextNumber, State.leave_notices, State.leave_sessions,
      List.countP_cons]
    by_cases he : h = e.owner
    · subst he
      simp only [ho, and_self, if_true, decide_true]
      rw [BitVec.add_assoc, BitVec.add_comm 1, BitVec.ofNat_add]
      rfl
    · have he' : ¬ e.owner = h := fun hx => he hx.symm
      simp [he, he']

/-- A removal with notices tells each open owner once per entry it loses (R21, R26, R28). -/
theorem State.removeEntries_nextNumber (s : State) (goes : Entry → Bool) (news : Handle → NoticeBody) (h : HostId)
    (ho : (s.sessions.get h).isOpen = true) :
    ((s.removeEntries goes fun x => some (news x)).notices.get h).nextNumber =
      (s.notices.get h).nextNumber + BitVec.ofNat 8 ((s.entries.filter goes).countP fun e => decide (e.owner = h)) := by
  rw [s.removeEntries_fold]
  exact State.removeAll_nextNumber news _ s h ho

/-- A quiet removal tells nobody (R24, R29). -/
theorem State.removeQuietly_notices (s : State) (goes : Entry → Bool) : (s.removeQuietly goes).notices = s.notices :=
  foldl_keeps State.notices (State.removeOne fun _ => none) (s.entries.filter goes) (fun _ _ _ => rfl) s

/-! ## Placing an entry -/

/-- Placing an entry adds it and nothing else. -/
theorem placeEntry_perm (cur : BitVec 16) (e : Entry) (es : List Entry) : (placeEntry cur e es).Perm (e :: es) := by
  induction es with
  | nil => exact .refl _
  | cons x xs ih =>
    simp only [placeEntry]
    split
    · exact .refl _
    · exact (List.Perm.cons x ih).trans (.swap e x xs)

theorem mem_placeEntry {cur : BitVec 16} {e x : Entry} {es : List Entry} :
    x ∈ placeEntry cur e es ↔ x = e ∨ x ∈ es := by
  rw [(placeEntry_perm cur e es).mem_iff, List.mem_cons]

/-! ## Slots -/

/-- A slot is free when no entry holds it (R2). -/
theorem State.slotFree_iff (s : State) (i : SlotId) : s.slotFree i = true ↔ ∀ e ∈ s.entries, e.handle.slot ≠ i := by
  simp [State.slotFree]

/-- Below 96 entries there is a lowest-numbered free slot (R2, R3). -/
theorem State.lowestFree_spec (s : State) (h : s.entries.length < 96) :
    ∃ i, s.lowestFree = some i ∧ (∀ e ∈ s.entries, e.handle.slot ≠ i) ∧ ∀ j, j < i → ∃ e ∈ s.entries, e.handle.slot = j := by
  have hex : ∃ i, s.slotFree i = true := by
    by_contra hc
    have hsub : List.finRange 96 ⊆ s.entries.map fun e => e.handle.slot := by
      intro i _
      have hi : ¬ s.slotFree i = true := fun hf => hc ⟨i, hf⟩
      rw [s.slotFree_iff] at hi
      by_contra hm
      exact hi fun e he hs => hm (List.mem_map.2 ⟨e, he, hs⟩)
    have hlen := (List.subperm_of_subset (List.nodup_finRange 96) hsub).length_le
    simp only [List.length_finRange, List.length_map] at hlen
    omega
  obtain ⟨i₀, hi₀⟩ := hex
  cases hl : s.lowestFree with
  | none => exact absurd hi₀ (List.find?_eq_none.1 hl i₀ (List.mem_finRange i₀))
  | some i =>
    refine ⟨i, rfl, (s.slotFree_iff i).1 (List.find?_some hl), fun j hj => ?_⟩
    obtain ⟨_, k, hk, hki, hall⟩ := List.find?_eq_some_iff_getElem.1 hl
    have hjk : j.val < k := by
      rw [← hki] at hj
      simpa [Fin.lt_def] using hj
    have hj' := hall j.val hjk
    simp only [List.getElem_finRange, Fin.cast_mk, Fin.eta, Bool.not_eq_true'] at hj'
    by_contra hc
    rw [(s.slotFree_iff j).2 fun e he hs => hc ⟨e, he, hs⟩] at hj'
    cases hj'

/-! ## Firing -/

/-- Two states agree on everything but the entry list, the use counts, the notices and the channels. -/
def SameButFiring (s t : State) : Prop :=
  t = { s with entries := t.entries, uses := t.uses, notices := t.notices, channels := t.channels }

theorem SameButFiring.refl (s : State) : SameButFiring s s := rfl

theorem SameButFiring.trans {s t u : State} (h : SameButFiring s t) (k : SameButFiring t u) : SameButFiring s u := by
  unfold SameButFiring at *
  rw [k, h]

theorem SameButEntries.butFiring {s t : State} (h : SameButEntries s t) : SameButFiring s t := by
  unfold SameButEntries SameButFiring at *
  rw [h]

theorem SameButFiring.tb {s t : State} (h : SameButFiring s t) : t.tb = s.tb := by rw [h]
theorem SameButFiring.lines {s t : State} (h : SameButFiring s t) : t.lines = s.lines := by rw [h]
theorem SameButFiring.claims {s t : State} (h : SameButFiring s t) : t.claims = s.claims := by rw [h]
theorem SameButFiring.reflexes {s t : State} (h : SameButFiring s t) : t.reflexes = s.reflexes := by rw [h]
theorem SameButFiring.sessions {s t : State} (h : SameButFiring s t) : t.sessions = s.sessions := by rw [h]
theorem SameButFiring.ports {s t : State} (h : SameButFiring s t) : t.ports = s.ports := by rw [h]
theorem SameButFiring.choices {s t : State} (h : SameButFiring s t) : t.choices = s.choices := by rw [h]
theorem SameButFiring.pending {s t : State} (h : SameButFiring s t) : t.pending = s.pending := by rw [h]
theorem SameButFiring.resetN {s t : State} (h : SameButFiring s t) : t.resetN = s.resetN := by rw [h]

theorem State.rearm_same (s : State) (c : ChannelId) : SameButFiring s (s.rearm c) := by
  unfold State.rearm
  split <;> rfl

theorem State.rearmBy_same (s : State) (d : Deed) : SameButFiring s (s.rearmBy d) := by
  unfold State.rearmBy
  split
  · exact s.rearm_same _
  · exact .refl s

theorem State.afterFiring_same (s : State) (e : Entry) : SameButEntries s (s.afterFiring e).state := by
  unfold State.afterFiring State.continueEntry
  split
  · exact s.leave_same e
  · split
    · exact s.leave_same e
    · dsimp only
      split
      · exact s.leave_same e
      · rfl

/-- An entry that fires touches nothing but the list, the use counts, the notices, and the channel a REARM names (R16 to R19). -/
theorem State.conclude_same (s : State) (late : Bool) (e : Entry) : SameButFiring s (s.conclude late e) := by
  have hafter : SameButFiring s ((s.rearmBy e.deed).afterFiring e).state :=
    (s.rearmBy_same e.deed).trans ((s.rearmBy e.deed).afterFiring_same e).butFiring
  have htold : ∀ (t : State) (h : HostId) (b : NoticeBody), SameButFiring s t → SameButFiring s (t.notify h b) :=
    fun t h b ht => ht.trans (t.notify_same h b).butEntries.butFiring
  unfold State.conclude
  dsimp only
  split <;> split
  · exact htold _ _ _ hafter
  · exact hafter
  · exact htold _ _ _ (htold _ _ _ hafter)
  · exact htold _ _ _ hafter

end Sys2Proof.Machine
end

