-- ==== Sys2Proof/Laws/Reflexes.lean ====
section
/-! SUPPORT. What removing reflexes can do, said once. -/

namespace Sys2Proof.Machine

/-- Two states agree on everything but the reflexes and the notice records. -/
def SameButReflexes (s t : State) : Prop := t = { s with reflexes := t.reflexes, notices := t.notices }

theorem SameButReflexes.refl (s : State) : SameButReflexes s s := rfl

theorem SameButReflexes.trans {s t u : State} (h : SameButReflexes s t) (k : SameButReflexes t u) : SameButReflexes s u := by
  unfold SameButReflexes at *
  rw [k, h]

theorem SameButNotices.butReflexes {s t : State} (h : SameButNotices s t) : SameButReflexes s t := by
  unfold SameButNotices SameButReflexes at *
  rw [h]

theorem SameButReflexes.tb {s t : State} (h : SameButReflexes s t) : t.tb = s.tb := by rw [h]
theorem SameButReflexes.entries {s t : State} (h : SameButReflexes s t) : t.entries = s.entries := by rw [h]
theorem SameButReflexes.uses {s t : State} (h : SameButReflexes s t) : t.uses = s.uses := by rw [h]
theorem SameButReflexes.lines {s t : State} (h : SameButReflexes s t) : t.lines = s.lines := by rw [h]
theorem SameButReflexes.claims {s t : State} (h : SameButReflexes s t) : t.claims = s.claims := by rw [h]
theorem SameButReflexes.channels {s t : State} (h : SameButReflexes s t) : t.channels = s.channels := by rw [h]
theorem SameButReflexes.sessions {s t : State} (h : SameButReflexes s t) : t.sessions = s.sessions := by rw [h]
theorem SameButReflexes.ports {s t : State} (h : SameButReflexes s t) : t.ports = s.ports := by rw [h]
theorem SameButReflexes.choices {s t : State} (h : SameButReflexes s t) : t.choices = s.choices := by rw [h]
theorem SameButReflexes.pending {s t : State} (h : SameButReflexes s t) : t.pending = s.pending := by rw [h]
theorem SameButReflexes.resetN {s t : State} (h : SameButReflexes s t) : t.resetN = s.resetN := by rw [h]

/-- One channel's part of a removal. -/
def State.removeReflex (goes : ChannelId → Reflex → Bool) (reason : Option RemovalReason) (s : State) (c : ChannelId) : State :=
  match s.reflex c with
  | none => s
  | some r =>
    if goes c r then
      match reason with
      | none => s.setReflex c none
      | some why => (s.setReflex c none).notify r.owner (.reflexRemoved c why)
    else s

theorem State.removeReflexes_fold (s : State) (goes : ChannelId → Reflex → Bool) (reason : Option RemovalReason) :
    s.removeReflexes goes reason = allChannels.foldl (State.removeReflex goes reason) s := rfl

theorem State.removeReflex_same (goes : ChannelId → Reflex → Bool) (reason : Option RemovalReason) (s : State) (c : ChannelId) :
    SameButReflexes s (s.removeReflex goes reason c) := by
  have hset : SameButReflexes s (s.setReflex c none) := rfl
  unfold State.removeReflex
  split
  · exact .refl s
  · split
    · split
      · exact hset
      · exact hset.trans ((s.setReflex c none).notify_same _ _).butReflexes
    · exact .refl s

/-- A removal touches nothing but the reflexes and the notices. -/
theorem State.removeReflexes_same (s : State) (goes : ChannelId → Reflex → Bool) (reason : Option RemovalReason) :
    SameButReflexes s (s.removeReflexes goes reason) := by
  rw [s.removeReflexes_fold]
  exact foldl_holds (SameButReflexes s) _ _ (fun t ht c _ => ht.trans (t.removeReflex_same goes reason c)) s (.refl s)

theorem State.removeReflex_reflexes (goes : ChannelId → Reflex → Bool) (reason : Option RemovalReason) (s : State)
    (c d : ChannelId) :
    (s.removeReflex goes reason c).reflexes[d] =
      if d = c then (s.reflexes[d]).filter (fun r => !goes d r) else s.reflexes[d] := by
  have hset : (s.setReflex c none).reflexes[d] = if d = c then none else s.reflexes[d] := by
    simp only [State.setReflex, Fin.getElem_fin, Vector.getElem_set]
    by_cases h : d = c
    · simp [h]
    · have : c.val ≠ d.val := fun hv => h (Fin.ext hv.symm)
      simp [h, this]
  unfold State.removeReflex
  split
  · next hr =>
    by_cases h : d = c
    · subst h
      rw [if_pos rfl]
      rw [show s.reflexes[d] = none from hr]
      rfl
    · rw [if_neg h]
  · next r hr =>
    split
    · next hg =>
      have hres : ∀ t : State, t.reflexes = (s.setReflex c none).reflexes →
          t.reflexes[d] = if d = c then (s.reflexes[d]).filter (fun r => !goes d r) else s.reflexes[d] := by
        intro t ht
        rw [ht, hset]
        by_cases h : d = c
        · subst h
          rw [if_pos rfl, if_pos rfl, show s.reflexes[d] = some r from hr]
          simp [Option.filter, hg]
        · rw [if_neg h, if_neg h]
      split
      · exact hres _ rfl
      · exact hres _ ((s.setReflex c none).notify_same _ _).reflexes
    · next hg =>
      by_cases h : d = c
      · subst h
        rw [if_pos rfl, show s.reflexes[d] = some r from hr]
        simp only [Option.filter, hg]
        rfl
      · rw [if_neg h]

theorem State.removeReflex_list (goes : ChannelId → Reflex → Bool) (reason : Option RemovalReason) (cs : List ChannelId)
    (s : State) (d : ChannelId) :
    (cs.foldl (State.removeReflex goes reason) s).reflexes[d] =
      if d ∈ cs then (s.reflexes[d]).filter (fun r => !goes d r) else s.reflexes[d] := by
  induction cs generalizing s with
  | nil => simp
  | cons c rest ih =>
    rw [List.foldl_cons, ih, s.removeReflex_reflexes goes reason c d]
    by_cases hd : d = c
    · simp only [hd, List.mem_cons, true_or, if_true]
      split
      · cases s.reflexes[c] with
        | none => rfl
        | some r => cases hg : goes c r <;> simp [Option.filter, hg]
      · rfl
    · simp [hd]

/-- The reflexes a removal names are gone, and no other (R129 to R131). -/
theorem State.removeReflexes_reflex (s : State) (goes : ChannelId → Reflex → Bool) (reason : Option RemovalReason)
    (d : ChannelId) :
    (s.removeReflexes goes reason).reflexes[d] = (s.reflexes[d]).filter fun r => !goes d r := by
  rw [s.removeReflexes_fold, State.removeReflex_list]
  exact if_pos (List.mem_finRange d)

end Sys2Proof.Machine
end

