-- ==== Sys2Proof/Laws/Timebase.lean ====
section
/-! SUPPORT. What a timebase notice and a discard can do, said once. -/

namespace Sys2Proof.Machine

/-- One notice to each host of a list moves on the counters of its open hosts, each once (R136, R137). -/
theorem State.notifyEach_nextNumber (hs : List HostId) (s : State) (stamp : Time) (body : NoticeBody) (hn : hs.Nodup) (k : HostId) :
    ((s.notifyEach hs stamp body).notices.get k).nextNumber =
      if k ∈ hs ∧ (s.sessions.get k).isOpen = true then (s.notices.get k).nextNumber + 1 else (s.notices.get k).nextNumber := by
  induction hs generalizing s with
  | nil => simp [State.notifyEach]
  | cons h rest ih =>
    simp only [List.nodup_cons] at hn
    have hstep : s.notifyEach (h :: rest) stamp body = (s.notifyAt h stamp body).notifyEach rest stamp body := rfl
    rw [hstep, ih _ hn.2, (s.notifyAt_same h stamp body).sessions, s.notifyAt_nextNumber]
    by_cases hk : k = h
    · subst hk
      simp [hn.1]
    · simp [hk]

/-- The addressees of a timebase notice (R59). -/
theorem State.mem_tbAddressees (s : State) (extra : Option HostId) (h : HostId) :
    h ∈ s.tbAddressees extra ↔ s.tb.holder = some h ∨ s.watches h = true ∨ extra = some h := by
  have hall : h ∈ allHosts := by cases h <;> decide
  simp [State.tbAddressees, hall, or_assoc]

theorem State.tbAddressees_nodup (s : State) (extra : Option HostId) : (s.tbAddressees extra).Nodup :=
  List.Nodup.sublist List.filter_sublist (by decide)

theorem State.tellTimebase_same (s : State) (stamp : Time) (body : NoticeBody) (extra : Option HostId) :
    SameButNotices s (s.tellTimebase stamp body extra) :=
  s.notifyEach_same _ _ _

/-- A timebase notice reaches the holder, every watcher and the host whose hold has just ended, each once (R59). -/
theorem State.tellTimebase_nextNumber (s : State) (stamp : Time) (body : NoticeBody) (extra : Option HostId) (h : HostId) :
    ((s.tellTimebase stamp body extra).notices.get h).nextNumber =
      if (s.tb.holder = some h ∨ s.watches h = true ∨ extra = some h) ∧ (s.sessions.get h).isOpen = true then
        (s.notices.get h).nextNumber + 1
      else (s.notices.get h).nextNumber := by
  rw [State.tellTimebase, State.notifyEach_nextNumber _ s stamp body (s.tbAddressees_nodup extra) h]
  simp only [s.mem_tbAddressees extra h]

theorem State.tellMode_same (s : State) (cause : TbCause) (extra : Option HostId) : SameButNotices s (s.tellMode cause extra) :=
  s.tellTimebase_same _ _ _

/-- An eviction touches nothing but the list, the use counts and the notices (R21). -/
theorem State.evict_same (s : State) (goes : Entry → Bool) (reason : EvictReason) : SameButEntries s (s.evict goes reason) :=
  s.removeEntries_same _ _

theorem State.evict_entries (s : State) (goes : Entry → Bool) (reason : EvictReason)
    (hn : (s.entries.map fun e => e.handle.slot).Nodup) : (s.evict goes reason).entries = s.entries.filter fun x => !goes x :=
  s.removeEntries_entries goes _ hn

theorem State.evict_slotsFollow (s : State) (goes : Entry → Bool) (reason : EvictReason)
    (hn : (s.entries.map fun e => e.handle.slot).Nodup) : Safety.SlotsFollow s (s.evict goes reason) :=
  s.removeEntries_slotsFollow goes _ hn

theorem State.evict_nextNumber (s : State) (goes : Entry → Bool) (reason : EvictReason) (h : HostId)
    (ho : (s.sessions.get h).isOpen = true) :
    ((s.evict goes reason).notices.get h).nextNumber =
      (s.notices.get h).nextNumber + BitVec.ofNat 8 ((s.entries.filter goes).countP fun e => decide (e.owner = h)) :=
  s.removeEntries_nextNumber goes (fun x => .evicted x reason) h ho

/-- Nothing is evicted from a list that holds nothing to evict. -/
theorem State.evict_none (s : State) (goes : Entry → Bool) (reason : EvictReason) (h : ∀ e ∈ s.entries, goes e = false) :
    s.evict goes reason = s := by
  have : s.entries.filter goes = [] := List.filter_eq_nil_iff.2 fun e he => by simp [h e he]
  simp [State.evict, State.removeEntries, this]

end Sys2Proof.Machine
end

