-- ==== Sys2Proof/Tests/Slice0.lean ====
section
/-! SUPPORT. The model's own tests: the well-formedness smoke, steps whose outcomes the manual writes out (each names its place),
and for every obligation with hypotheses a witness that some state and operands meet them together. -/

namespace Sys2Proof.Tests

open Sys2Proof.Machine Sys2Proof.Safety

/-! ## Well-formedness: one ill-formed term for each check -/

theorem test_wellFormed_refuses_line_12 : (Instr.pulseEnd 12).wellFormed = false := by decide
theorem test_wellFormed_refuses_edge_on_channel_8 : (Instr.senseEdge 8 true).wellFormed = false := by decide
theorem test_wellFormed_refuses_capture_on_channel_8 : (Instr.capture 8 false).wellFormed = false := by decide
theorem test_wellFormed_takes_the_last_pins :
    (Instr.pulseEnd 11).wellFormed = true ∧ (Instr.senseEdge 7 true).wellFormed = true := by decide

/-! ## States to test on -/

/-- Port `p` of `s` has shifted in a request frame, with `padding` fill bytes behind it. -/
def asking (s : State) (p : HostId) (code : Nat) (tag : Byte) (payload : List Byte) (padding : Nat := 0) : State :=
  s.setPort p
    { s.port p with transaction := .shifting, assembly := requestBytes code tag payload ++ List.replicate padding 255 }

theorem holds_asking (s : State) (p : HostId) (code : Nat) (tag : Byte) (payload : List Byte) (padding : Nat) :
    HoldsRequest (asking s p code tag payload padding) p code tag payload := by
  cases p <;> exact ⟨rfl, padding, rfl⟩

/-- Port `p` of `s` has shifted in some bytes. -/
def shifted (s : State) (p : HostId) (bytes : List Byte) : State :=
  s.setPort p { s.port p with transaction := .shifting, assembly := bytes }

theorem forall_hosts {P : HostId → Prop} (a : P .a) (b : P .b) (c : P .c) (d : P .d) : ∀ h, P h
  | .a => a
  | .b => b
  | .c => c
  | .d => d

/-- An open session with a silence limit of 5 and the timebase-watch flag set. -/
def session : SessionRec :=
  { isOpen := true, number := 1, silenceLimit := 5, timer := some ⟨0, 0⟩, watch := true, endCause := .none }

def setOn (l : LineId) : Deed := .onLine .set l

def entry0 : Entry :=
  { handle := ⟨0, 0⟩, owner := .a, deed := setOn 0, due := ⟨5, 200⟩, recurrence := none, tag := 1, notify := true,
    late := .fireLate, origin := .host }
def entry1 : Entry :=
  { handle := ⟨1, 0⟩, owner := .a, deed := .rearm 1, due := ⟨6, 100⟩, recurrence := some ⟨2, 3⟩, tag := 2, notify := true,
    late := .drop, origin := .host }
def entry2 : Entry :=
  { handle := ⟨2, 0⟩, owner := .b, deed := setOn 1, due := ⟨6, 500⟩, recurrence := none, tag := 0, notify := false,
    late := .fireLate, origin := .host }

/-- The claim record of a line that A and B share. -/
def sharedBy (policy : Policy) : ClaimRec := ⟨.shared, ⟨true, true, false, false⟩, policy, []⟩

def reflex0 : Reflex := { owner := .a, deed := .onLine .set 0, delay := 50, late := .fireLate, notify := true, tag := 3 }

/-- A RUNNING part: A and B have sessions and A the hold; A holds D0, for which B waits, and D3, which pulses; A and B share D1;
both subscribe to S0, which has A's reflex, and A to S1, whose gate has closed; three entries wait. -/
def rich : State :=
  { State.reset with
    tb := { Timebase.reset with mode := .running, now := ⟨5, 100⟩, length := 1000, holder := some .a }
    entries := [entry0, entry1, entry2]
    claims :=
      ((State.reset.claims.set 0 ⟨.exclusive, ⟨true, false, false, false⟩, .refuse, [⟨.b, .exclusive, .cleared⟩]⟩).set 1
        ⟨.shared, ⟨true, true, false, false⟩, .refuse, []⟩).set 3 ⟨.exclusive, ⟨true, false, false, false⟩, .refuse, []⟩
    lines :=
      State.reset.lines.set 3
        { level := true, output := .driven, heldLevel := false, pulse := some 1, settings := ⟨false, true, some true⟩ }
    channels :=
      (State.reset.channels.set 0
        { ChannelRec.reset false with state := .opened, subscribers := ⟨true, true, false, false⟩, prescale := 2, counter := 1 }).set
        1 { ChannelRec.reset false with state := .gated, gate := true, subscribers := ⟨true, false, false, false⟩ }
    reflexes := State.reset.reflexes.set 0 (some reflex0)
    sessions := ⟨session, session, .reset, .reset⟩ }

/-- `rich` with another timebase record. -/
def richTb (f : Timebase → Timebase) : State := rich.setTb (f rich.tb)

theorem rich_in_room : ScheduleInRoom rich := ⟨by decide, by decide, forall_hosts (by decide) (by decide) (by decide) (by decide)⟩

theorem rich_wait_lists : WaitListsConsistent rich := by unfold WaitListsConsistent; decide

theorem rich_timebase : TimebaseInRange rich ∧ MissesBelowLoss rich ∧ PlansAreHeld rich ∧ RunsOnReference rich := by
  refine ⟨by unfold TimebaseInRange; decide, by unfold MissesBelowLoss; decide, ⟨?_, by decide⟩, by unfold RunsOnReference; decide⟩
  exact forall_hosts (by decide) (by decide) (by decide) (by decide)

theorem rich_schedule : HandlesCurrent rich ∧ RecurrencesInRange rich ∧ ScheduleDueLater rich := by
  refine ⟨by unfold HandlesCurrent; decide, by unfold RecurrencesInRange; decide, by unfold ScheduleDueLater; decide⟩

theorem rich_counts : QueuesInRoom rich ∧ CountsSaturate rich ∧ ChannelCountsInRange rich ∧ PortsConsistent rich := by
  refine ⟨?_, ?_, by unfold ChannelCountsInRange; decide, ?_⟩ <;>
    exact forall_hosts (by decide) (by decide) (by decide) (by decide)

theorem rich_attention : AttentionSettled rich := forall_hosts (by decide) (by decide) (by decide) (by decide)

theorem rich_holdings :
    SessionsConsistent rich ∧ ClaimsConsistent rich ∧ FreeLinesCleared rich ∧ ChannelsConsistent rich ∧ ReflexesOwned rich ∧
      EntriesOwned rich ∧ NoCollisions rich ∧ ClosedHoldsNothing rich := by
  refine ⟨?_, by unfold ClaimsConsistent; decide, by unfold FreeLinesCleared; decide, by unfold ChannelsConsistent; decide, by unfold ReflexesOwned; decide,
    by unfold EntriesOwned; decide, by unfold NoCollisions; decide, ?_⟩
  · exact forall_hosts (by decide) (by decide) (by decide) (by decide)
  · exact forall_hosts (by decide) (by decide) (by decide) (by decide)

/-! ## Outcomes the manual writes out -/

/-- The state after a command that answers a next state. -/
def after (c : Instr) (s : State) : State :=
  match exec c s with
  | .next t => t
  | _ => s

/-- The reply a port's slot holds: status, tag and payload. -/
def answer (s : State) (p : HostId) : Option (Status × Byte × List Byte) :=
  (s.port p).slot.map fun r => (r.status, r.tag, r.payload)

set_option maxRecDepth 20000 in
/-- R183: NOP with tag 1 ends in 21, the EMPTY frame in 58. -/
theorem test_crc_of_nop_and_empty : crc8 [0, 1, 0] = 21 ∧ Reply.emptyFrame.bytes = [3, 0, 0, 0, 58] := by decide

/-- R184: slot 2 with use count 1 is 130, written 0, 130; slot 95 with use count 511 is 255, 223. -/
theorem test_handle_bytes :
    Handle.bytes ⟨2, 1⟩ = [0, 130] ∧ Handle.bytes ⟨95, 511⟩ = [255, 223] ∧ handleOf 255 223 = some ⟨95, 511⟩ := by decide

/-- R184: frame 201, phase 100. -/
theorem test_time_bytes : timeBytes ⟨201, 100⟩ = [0, 201, 0, 0, 100] := by decide

/-- Section 11.2, phase 200: a PULSE of 40 and a CLEAR give 1 with a pulse of 40 under SET_WINS, 0 with no pulse under CLEAR_WINS. -/
theorem test_group_by_policy :
    (OutputRec.cleared.applyGroup (sharedBy .setWins) [.pulse 40, .clear] = { OutputRec.cleared with level := true, pulse := some 40 }) ∧
      OutputRec.cleared.applyGroup (sharedBy .clearWins) [.pulse 40, .clear] = OutputRec.cleared := by decide

/-- Section 11.2, phases 220 and 225: a PULSE of 10 retriggers one with 20 left; a CLEAR ends it. -/
theorem test_group_retriggers_and_ends :
    (OutputRec.applyGroup { OutputRec.cleared with level := true, pulse := some 20 } (sharedBy .setWins) [.pulse 10]).pulse = some 10 ∧
      OutputRec.applyGroup { OutputRec.cleared with level := true, pulse := some 5 } (sharedBy .setWins) [.clear] =
        OutputRec.cleared := by decide

/-- Section 11.3, step 3: a SET and a TOGGLE on an EXCLUSIVE line give 0. -/
theorem test_group_in_order :
    (OutputRec.cleared.applyGroup ⟨.exclusive, ⟨true, false, false, false⟩, .refuse, []⟩ [.set, .toggle]).level = false := by decide

/-- Section 6.6: delays of 50, 100 and 1,350 from frame 40, phase 900 of 1,000, without a staged length and with 600. -/
theorem test_reflex_due_times :
    let t : Timebase := { Timebase.reset with now := ⟨40, 900⟩, length := 1000 }
    [50, 100, 1350].map t.advanced = [(0, 950), (1, 0), (2, 250)] ∧
      [50, 100, 1350].map ({ t with staged := some 600 } : Timebase).advanced = [(0, 950), (1, 0), (3, 50)] := by decide

/-- A timebase of the example of section 2.9. -/
def synced (frame : BitVec 16) (phase : Nat) (lock : SyncLock) (missCount : Nat) (prevMissed : Bool) : State :=
  { State.reset with
    tb :=
      { Timebase.reset with
        mode := .running, now := ⟨frame, phase⟩, length := 1000, syncMode := .align, window := 50, lock, missCount, prevMissed } }

/-- The current time, the sync state, the miss count and the previous-wrap-missed flag. -/
def syncView (s : State) : Time × SyncLock × Nat × Bool := (s.tb.now, s.tb.lock, s.tb.missCount, s.tb.prevMissed)

/-- Section 2.9, steps 1 and 2. -/
theorem test_sync_acquire_and_on_time :
    syncView (after .syncEdge (synced 0 300 .searching 0 false)) = (⟨1, 0⟩, .locked, 0, false) ∧
      syncView (after .syncEdge (synced 1 980 .locked 0 false)) = (⟨2, 0⟩, .locked, 0, false) := by decide

/-- Section 2.9, steps 4 and 5. -/
theorem test_sync_late_and_early :
    syncView (after .syncEdge (synced 3 12 .locked 1 true)) = (⟨3, 0⟩, .locked, 0, false) ∧
      syncView (after .syncEdge (synced 3 600 .locked 0 false)) = (⟨4, 0⟩, .locked, 0, false) := by decide

/-- Section 2.9, step 3. -/
theorem test_miss : syncView (after .naturalWrap (synced 2 999 .locked 0 false)) = (⟨3, 0⟩, .locked, 1, true) := by decide

/-- Section 2.9, step 8: the third miss. -/
theorem test_sync_lost : syncView (after .syncLost (synced 6 999 .locked 2 true)) = (⟨7, 0⟩, .lost, 3, true) := by decide

/-- The part of section 11.3 before its step 3: D holds the timebase, whose next length is 800; A holds D2, B holds D9. -/
def overtaking : State :=
  let e : Entry :=
    { handle := ⟨0, 0⟩, owner := .a, deed := setOn 2, due := ⟨100, 700⟩, recurrence := none, tag := 0, notify := true,
      late := .fireLate, origin := .host }
  { State.reset with
    tb := { (synced 100 600 .locked 0 false).tb with staged := some 800, holder := some .d }
    entries :=
      [e, { e with handle := ⟨2, 0⟩, owner := .b, deed := .onLine (.pulse 100) 9, due := ⟨100, 850⟩, recurrence := some ⟨1, 0⟩ },
        { e with handle := ⟨1, 0⟩, deed := .onLine .clear 2, due := ⟨100, 900⟩, late := .drop },
        { e with handle := ⟨5, 0⟩, deed := .onLine .toggle 2, due := ⟨100, 950⟩ },
        { e with handle := ⟨4, 0⟩, owner := .b, deed := setOn 9, due := ⟨101, 0⟩ }]
    claims :=
      (State.reset.claims.set 2 ⟨.exclusive, ⟨true, false, false, false⟩, .refuse, []⟩).set 9
        ⟨.exclusive, ⟨false, true, false, false⟩, .refuse, []⟩
    sessions := .const { session with watch := false } }

/-- The notices host `h` holds, by number: the stamp and the body of each. -/
def told (s : State) (h : HostId) : List (BitVec 8 × Time × NoticeBody) :=
  (s.noticeRec h).held.map fun n => (n.number, n.stamp, n.body)

set_option maxRecDepth 20000 in
/-- R43: a run limit of 1 halts at the wrap, with cause PENDING_STOP where a stop is pending too; a limit of 2 is not reached. -/
theorem test_run_limit_with_and_without_a_pending_stop :
    [(false, 1), (true, 1), (false, 2)].map (fun r =>
      let t := after .runLimit (richTb fun t => { t with now := ⟨5, 999⟩, pendingStop := r.1, runLimit := r.2 })
      (t.tb.mode, t.tb.pendingStop, told t .b)) =
        [(.halted, false, [(0, ⟨6, 0⟩, .tbState .halted .runLimit)]),
          (.halted, false, [(0, ⟨6, 0⟩, .tbState .halted .pendingStop)]), (.running, false, [])] := by decide

/-- Section 11.3, step 3: the notices of host A (the urgent EXPIRED is read first) and of host D. -/
theorem test_early_edge_notices :
    told (after .syncEdge overtaking) .a =
        [(1, ⟨100, 600⟩, .expired ⟨1, 0⟩ (some 2)),
          (0, ⟨100, 600⟩, .fired ⟨0, 0⟩ .set (some 2) false true true 0 .host),
          (2, ⟨100, 600⟩, .fired ⟨5, 0⟩ .toggle (some 2) false true true 0 .host)] ∧
      told (after .syncEdge overtaking) .d = [(0, ⟨100, 600⟩, .syncEvent .early 0), (1, ⟨101, 0⟩, .tbFrame 800)] := by
  decide

set_option maxRecDepth 20000 in
/-- Section 11.3, step 3: the notices of host B, and what is left. -/
theorem test_early_edge_eviction :
    told (after .syncEdge overtaking) .b =
        [(1, ⟨100, 600⟩, .evicted ⟨2, 0⟩ .frameLength),
          (0, ⟨100, 600⟩, .fired ⟨2, 0⟩ .pulse (some 9) true true true 0 .host),
          (2, ⟨101, 0⟩, .fired ⟨4, 0⟩ .set (some 9) true false true 0 .host)] ∧
      (after .syncEdge overtaking).entries = [] ∧ (after .syncEdge overtaking).tb.length = 800 ∧
      (after .syncEdge overtaking).line 9 = { OutputRec.cleared with level := true } := by
  decide

set_option maxRecDepth 20000 in
/-- Section 1.10, step 5: with slots 1 and 2 taken and slot 0 used once, a CLEAR of D3 at frame 201, phase 100 is slot 0, use 1. -/
theorem test_schedule_takes_the_lowest_free_slot :
    let e := { entry1 with due := ⟨201, 100⟩ }
    let s : State :=
      { rich with
        tb := { rich.tb with now := ⟨200, 5000⟩, length := 10000 }
        entries := [{ entry2 with due := ⟨200, 9000⟩ }, e]
        uses := rich.uses.set 0 1 }
    let t := after (.schedule .a) (asking s .a 32 9 [1, 3, 0, 201, 0, 0, 100, 0, 0, 0, 0, 0, 0, 0, 0, 0])
    answer t .a = some (.ok, 9, [0, 128]) ∧ t.entries.map Entry.handle = [⟨2, 0⟩, ⟨1, 0⟩, ⟨0, 1⟩] := by
  decide

/-- D7 as section 4.8 has it after step 3. -/
def contested : State :=
  { State.reset with
    claims :=
      State.reset.claims.set 7
        ⟨.shared, ⟨true, false, false, false⟩, .setWins, [⟨.b, .exclusive, .cleared⟩, ⟨.c, .shared .clearWins, .cleared⟩]⟩
    sessions := .const session }

set_option maxRecDepth 20000 in
/-- Section 4.8, step 4: D asks for SHARED with wait no. -/
theorem test_claim_busy : answer (after (.claim .d) (asking contested .d 40 4 [7, 1, 0, 0, 0, 2, 0])) .d = some (.busy, 4, [2, 2]) := by
  decide

set_option maxRecDepth 20000 in
/-- Section 4.8, step 5: B withdraws its place, and C is admitted. -/
theorem test_release_withdraws_and_admits :
    let t := after (.release .b) (asking contested .b 41 5 [7])
    answer t .b = some (.ok, 5, [1]) ∧ t.claim 7 = ⟨.shared, ⟨true, false, true, false⟩, .setWins, []⟩ ∧
      told t .c = [(0, ⟨0, 0⟩, .claimGranted 7 .shared .setWins)] := by
  decide

set_option maxRecDepth 20000 in
/-- Section 9.13, step 1: the first OPEN after device reset. -/
theorem test_open_after_reset :
    answer (after (.openSession .a) (asking .reset .a 1 1 [0, 0])) .a = some (.ok, 1, [1, 4]) := by decide

set_option maxRecDepth 20000 in
/-- Section 9.13, step 11 (R163): IDENT in a closed session. -/
theorem test_ident : answer (after (.ident .a) (asking .reset .a 5 10 [] 3)) .a = some (.ok, 10, [1, 156, 66, 1]) := by decide

/-- Section 9.13, steps 5 and 8: a runt and an over-long frame are counted. -/
theorem test_runt_and_over_long :
    ((after (.transactionEnd .a) (shifted .reset .a [8, 4])).port .a).frameErrors = 1 ∧
      ((after (.transactionEnd .a) (shifted .reset .a [23, 7, 0, 0, 23, 8, 0, 0])).port .a).frameErrors = 1 := by decide

/-- Section 11.6, step 1: the rising edge on S5 is captured, closes the gate, and the reflex posts its PULSE 250 ticks on. -/
theorem test_capture_with_reflex :
    let s : State :=
      { rich with
        tb := { rich.tb with now := ⟨60, 100⟩ }
        entries := [{ entry0 with deed := .rearm 5, due := ⟨60, 900⟩ }]
        channels :=
          State.reset.channels.set 5
            { ChannelRec.reset false with state := .opened, gate := true, subscribers := ⟨true, true, false, false⟩ }
        reflexes := State.reset.reflexes.set 5 (some { reflex0 with deed := .onLine (.pulse 100) 3, delay := 250 }) }
    let t := after (.senseEdge 5 true) s
    (t.channel 5).state = .gated ∧ (t.channel 5).last = some ⟨⟨60, 100⟩, .rising, 1⟩ ∧
      t.entries.map (fun e => (e.handle, e.due)) = [(⟨1, 0⟩, ⟨60, 350⟩), (⟨0, 0⟩, ⟨60, 900⟩)] ∧
      told t .b = [(0, ⟨60, 100⟩, .capture 5 .rising 1)] := by
  decide

/-- Section 3.10, step 10: a loss of the reference holds D5 at its safe level 0 and freezes its pulse. -/
theorem test_ref_lost_holds_safe_levels :
    let s : State :=
      { richTb (fun t => { t with monitor := ⟨.present, 3, 0, false⟩ }) with
        lines := rich.lines.set 3 { rich.lines[3] with pulse := some 300, settings := ⟨false, true, some false⟩ } }
    let t := after .refLost s
    t.line 3 = { s.line 3 with output := .held, heldLevel := false } ∧ t.pin 3 = some false ∧ t.tb.mode = .refLost := by
  decide

/-- Section 8.8, step 4: the session of a host is lost to silence at its limit; nothing of it is left. -/
theorem test_silence_expiry :
    let s := rich.setSession .b { session with timer := some ⟨4, 261⟩ }
    ((after (.silenceExpiry .b) s).session .b) =
        { session with isOpen := false, silenceLimit := 0, timer := none, watch := false, endCause := .silence } ∧
      (after (.silenceExpiry .b) s).entries = [entry0, entry1] := by decide

/-- R159: where a request has restarted the timer there is no expiry. -/
theorem test_no_silence_expiry_before_the_limit : after (.silenceExpiry .b) rich = rich := by decide

/-- R54: three periods with no edge are too few, an edge restarts their count, and the second period with one is a PRESENT
declaration, told to A and B at the time it is made. -/
theorem test_declarations_wait_for_their_counts :
    (∀ m ∈ [RefMonitor.mk .present 2 0 false, ⟨.present, 3, 0, true⟩], after .refLost (richTb fun t => { t with monitor := m }) =
        richTb fun t => { t with monitor := m }) ∧
      let t := after .refBack (richTb fun t => { t with mode := .refLost, monitor := ⟨.absent, 0, 1, true⟩ })
      t.tb.monitor = ⟨.present, 0, 0, false⟩ ∧ told t .b = [(0, ⟨5, 100⟩, .tbState .refLost .refBack)] := by decide

/-- R177: the 64th housekeeping period without a clock edge abandons the transaction, and the 63rd does not. -/
theorem test_abandoned_at_the_64th_period :
    ([62, 63].map fun n =>
      ((after (.transactionAbandoned .a) (rich.setPort .a { rich.port .a with transaction := .shifting, stall := n })).port
        .a).transaction) = [.shifting, .abandoned] := by decide

/-- R111 and R114: the third REFCLK sample of a level on S1 is captured at the time of that cycle, and its subscriber is told. -/
theorem test_third_sample_is_captured :
    let s := (richTb fun t => { t with prescale := 2 }).setChannel 1
      { rich.channel 1 with state := .opened, filter := .refclk, pin := true, filterCount := 2 }
    ((after .refclkCycle s).channel 1).last = some ⟨⟨5, 100⟩, .rising, 1⟩ ∧
      told (after (.capture 1 true) s) .a = [(0, ⟨5, 100⟩, .capture 1 .rising 1)] := by decide

/-- R181: the data outputs are at high impedance while RESET_N is low, also on a port whose chip select is low. -/
theorem test_data_outputs_while_reset_is_low :
    (after (.deviceReset ⟨false, ⟨true, false, false, false⟩⟩ 0) rich).sdo .a = none ∧
      (after (.deviceReset ⟨true, ⟨true, false, false, false⟩⟩ 0) rich).sdo .a = some true ∧
      after .tick (after (.deviceReset ⟨false, (.const false)⟩ 255) rich) = after (.deviceReset ⟨false, (.const false)⟩ 255) rich := by
  decide

/-! ## Witnesses: the machine and the host ports

`witness_X` shows states and operands that meet the hypotheses of the obligation X, clause by clause, at the ends of the ranges. -/

/-- A reply that stands in a slot. -/
def reply : Reply :=
  { status := .ok, tag := 7, prevUnread := false, noticesHeld := true, attention := false, payload := [1] }

theorem witness_StepTakesFrontCommand : (rich.setPending [.tick, .syncEdge]).pending = .tick :: [.syncEdge] := rfl

/-- RESET_N low; every state of the monitor at the ends of its counts; a timer one period and one unit short of its limit and at
it, and a stopped one; a port that is idle, and one whose stall count is 62 and 63. -/
theorem witness_EmptyQueueStepIsAHousekeepingPeriod :
    (rich.pending = [] ∧ rich.resetN = true) ∧ (∃ s : State, s.pending = [] ∧ s.resetN = false) ∧
      (∀ m ∈ [RefMonitor.mk .present 3 0 true, ⟨.present, 2, 0, false⟩, ⟨.present, 3, 0, false⟩, ⟨.absent, 0, 1, false⟩,
          ⟨.absent, 0, 0, true⟩, ⟨.absent, 0, 1, true⟩],
        (richTb fun t => { t with monitor := m }).pending = [] ∧ (richTb fun t => { t with monitor := m }).resetN = true ∧
          (richTb fun t => { t with monitor := m }).tb.monitor = m) ∧
      (¬ Open rich .c ∧ ∀ r ∈ [(4, 260), (3, 261), (4, 261)], ∃ s : State, s.pending = [] ∧ s.resetN = true ∧ Open s .a ∧
        (s.session .a).timer = some ⟨r.1, r.2⟩ ∧ (s.session .a).silenceLimit = 5) ∧
      ((rich.port .a).transaction ≠ .shifting ∧ ∀ n ∈ [62, 63], ∃ s : State, s.pending = [] ∧ s.resetN = true ∧
        (s.port .a).transaction = .shifting ∧ (s.port .a).stall = n) ∧
      ∀ h : HostId, ¬ Open rich h ∨ (rich.session h).timer = none ∨
        ∃ units periods, (rich.session h).timer = some ⟨units, periods⟩ ∧ periods < 262 ∧
          (units + 1 < (rich.session h).silenceLimit ∨ units < (rich.session h).silenceLimit ∧ periods < 261) := by
  refine ⟨by decide, ⟨rich.setResetN false, by decide⟩, by decide, ⟨by unfold Open; decide, fun r _ =>
      ⟨rich.setSession .a { session with timer := some ⟨r.1, r.2⟩ }, rfl, rfl, rfl, rfl, rfl⟩⟩,
    ⟨by decide, fun n _ => ⟨rich.setPort .a { rich.port .a with transaction := .shifting, stall := n }, rfl, rfl, rfl, rfl⟩⟩, forall_hosts ?_ ?_ ?_ ?_⟩
  · exact .inr (.inr ⟨0, 0, by decide⟩)
  · exact .inr (.inr ⟨0, 0, by decide⟩)
  · exact .inl (by unfold Open; decide)
  · exact .inl (by unfold Open; decide)

theorem witness_HeldRequestFrameIsTaken :
    254 < 255 ∧ (List.replicate 48 (0 : Byte)).length ≤ 48 ∧
      HoldsRequest (asking rich .a 254 255 (List.replicate 48 0) 2) .a 254 255 (List.replicate 48 0) :=
  ⟨by decide, by decide, holds_asking ..⟩

theorem witness_ChipSelectFallingChoosesTheOutgoingFrame :
    ((rich.port .a).transaction = .idle ∧ rich.resetN = true ∧ (rich.port .a).slot = none) ∧
      (∃ s : State, (s.port .d).transaction = .idle ∧ s.resetN = true ∧ (s.port .d).slot = some reply) ∧
      ∃ s : State, (s.port .d).transaction = .idle ∧ s.resetN = false :=
  ⟨by decide, ⟨rich.setPort .d { rich.port .d with slot := some reply, unread := true }, by decide⟩,
    rich.setResetN false, by decide⟩

/-- Between two bytes; at the first bit of the EMPTY frame, at its last and behind it; IDLE; ABANDONED. -/
theorem witness_EightRisingEdgesShiftOneByte :
    (((shifted rich .a [1]).port .a).transaction = .shifting ∧ ((shifted rich .a [1]).port .a).bits = []) ∧
      (∀ n ∈ [0, 39, 40], ∃ s : State, s.resetN = true ∧ (s.port .a).transaction = .shifting ∧
        (s.port .a).outgoing = [3, 0, 0, 0] ++ 58 :: [] ∧ (s.port .a).bitsOut = n) ∧
      (rich.resetN = true ∧ (rich.port .b).transaction = .idle) ∧
      ∃ s : State, s.resetN = true ∧ (s.port .a).transaction = .abandoned :=
  ⟨by decide,
    fun n _ => ⟨rich.setPort .a { rich.port .a with transaction := .shifting, outgoing := [3, 0, 0, 0, 58], bitsOut := n }, rfl, rfl,
      rfl, rfl⟩, by decide, rich.setPort .a { rich.port .a with transaction := .abandoned }, rfl, rfl⟩

/-- R167: the EMPTY frame begins with the bits of 3, most significant first, and fill bits follow its last byte. -/
theorem test_data_output_of_the_empty_frame :
    [6, 7, 39, 40].map (fun n => State.sdo
      (rich.setPort .a { rich.port .a with transaction := .shifting, outgoing := [3, 0, 0, 0, 58], bitsOut := n }) .a) =
        [some true, some true, some false, some true] := by decide

theorem witness_TransactionsThatEndWithoutAFrame :
    (((shifted rich .a []).port .a).transaction = .shifting ∧ ∀ b ∈ ((shifted rich .a []).port .a).assembly, b = 255) ∧
      (((shifted rich .a [0, 1]).port .a).transaction = .shifting ∧
        (∃ b ∈ ((shifted rich .a [0, 1]).port .a).assembly, b ≠ 255) ∧
        ((shifted rich .a [0, 1]).port .a).assembly.length ≤ 2) ∧
      (((shifted rich .a [0, 1, 49]).port .a).transaction = .shifting ∧
        ((shifted rich .a [0, 1, 49]).port .a).assembly = 0 :: 1 :: 49 :: [] ∧ 48 < (49 : Byte).toNat) ∧
      (((shifted rich .a [0, 1, 0]).port .a).transaction = .shifting ∧
        ((shifted rich .a [0, 1, 0]).port .a).assembly = 0 :: 1 :: 0 :: [] ∧ ([] : List Byte).length ≤ (0 : Byte).toNat) ∧
      (((shifted rich .a [0, 1, 0, 21, 0]).port .a).transaction = .shifting ∧
        ((shifted rich .a [0, 1, 0, 21, 0]).port .a).assembly = 0 :: 1 :: 0 :: [21, 0] ∧
        ∃ b ∈ ([21, 0] : List Byte).drop ((0 : Byte).toNat + 1), b ≠ 255) ∧
      ((rich.setPort .a { rich.port .a with transaction := .abandoned }).port .a).transaction = .abandoned ∧
      (∃ s : State, (s.port .a).transaction = .shifting ∧ 63 ≤ (s.port .a).stall) ∧
      ∃ s : State, (s.port .a).transaction = .shifting ∧ (s.port .a).stall < 63 :=
  ⟨by decide, by decide, by decide, by decide, by decide, by decide,
    ⟨rich.setPort .a { rich.port .a with transaction := .shifting, stall := 63 }, by decide⟩,
    rich.setPort .a { rich.port .a with transaction := .shifting, stall := 62 }, by decide⟩

set_option maxRecDepth 20000 in
/-- NOP with tag 1 has the CRC 21 (R183). -/
theorem witness_BadCrcIsCountedAndAnswered :
    ((shifted rich .a [0, 1, 0, 20]).takenFrame .a = some ⟨0, 1, [], 20⟩ ∧
        (RequestFrame.mk 0 1 [] 20).sound = false ∧ (∃ r ∈ requestRows, (0 : Byte).toNat = r.2.code) ∧
        Open (shifted rich .a [0, 1, 0, 20]) .a) ∧
      (shifted rich .c [254, 1, 0, 20, 255]).takenFrame .c = some ⟨254, 1, [], 20⟩ ∧
        (RequestFrame.mk 254 1 [] 20).sound = false ∧ (∀ r ∈ requestRows, (254 : Byte).toNat ≠ r.2.code) ∧
        ¬ Open (shifted rich .c [254, 1, 0, 20, 255]) .c := by
  unfold Open
  decide

set_option maxRecDepth 20000 in
/-- The frames are requests whose opcode names nothing (6), whose payload is a byte too long (NOP), and one without a session
(TB_HOLD). -/
theorem witness_PortRefusesBeforeAnyBlock :
    ((shifted rich .a [6, 1, 0, crc8 [6, 1, 0]]).takenFrame .a = some ⟨6, 1, [], crc8 [6, 1, 0]⟩ ∧
        (RequestFrame.mk 6 1 [] (crc8 [6, 1, 0])).sound = true ∧ ∀ r ∈ requestRows, (6 : Byte).toNat ≠ r.2.code) ∧
      ((shifted rich .a [0, 1, 1, 9, crc8 [0, 1, 1, 9]]).takenFrame .a = some ⟨0, 1, [9], crc8 [0, 1, 1, 9]⟩ ∧
        (RequestFrame.mk 0 1 [9] (crc8 [0, 1, 1, 9])).sound = true ∧ ([9] : List Byte).length ≠ 0) ∧
      (shifted rich .c [16, 1, 0, crc8 [16, 1, 0]]).takenFrame .c = some ⟨16, 1, [], crc8 [16, 1, 0]⟩ ∧
        (RequestFrame.mk 16 1 [] (crc8 [16, 1, 0])).sound = true ∧
        ((shifted rich .c [16, 1, 0, crc8 [16, 1, 0]]).session .c).isOpen = false := by
  decide

/-- A request of host A, whose session is open, held by port A. -/
theorem held_by_a (f : Timebase → Timebase) (code : Nat) (tag : Byte) (payload : List Byte) :
    HoldsRequest (asking (richTb f) .a code tag payload) .a code tag payload ∧
      Open (asking (richTb f) .a code tag payload) .a :=
  ⟨holds_asking .., rfl⟩

/-- Port A of `rich` holds the request. -/
abbrev asked (code : Nat) (payload : List Byte) : State := asking (richTb id) .a code 7 payload

theorem asked_held (code : Nat) (payload : List Byte) :
    HoldsRequest (asked code payload) .a code 7 payload ∧ Open (asked code payload) .a := held_by_a ..

theorem asked_in_room (code : Nat) (payload : List Byte) : ScheduleInRoom (asked code payload) := rich_in_room

theorem asked_wait_lists (code : Nat) (payload : List Byte) : WaitListsConsistent (asked code payload) := rich_wait_lists

theorem witness_BadFieldsAreRefused :
    (HoldsRequest (asked 1 [0, 2]) .a 1 7 [0, 2] ∧ 2 ≤ (2 : Byte).toNat) ∧
      (HoldsRequest (asked 18 [0, 2, 0, 0]) .a 18 7 [0, 2, 0, 0] ∧ Open (asked 18 [0, 2, 0, 0]) .a) ∧
      (HoldsRequest (asked 19 [2]) .a 19 7 [2] ∧ Open (asked 19 [2]) .a) ∧
      (HoldsRequest (asked 21 [2, 0, 0, 0]) .a 21 7 [2, 0, 0, 0] ∧ Open (asked 21 [2, 0, 0, 0]) .a) ∧
      (HoldsRequest (asked 40 [11, 1, 0, 0, 0, 0, 3]) .a 40 7 [11, 1, 0, 0, 0, 0, 3] ∧
        Open (asked 40 [11, 1, 0, 0, 0, 0, 3]) .a ∧ 3 ≤ (3 : Byte).toNat) ∧
      (HoldsRequest (asked 41 [12]) .a 41 7 [12] ∧ Open (asked 41 [12]) .a ∧ 12 ≤ (12 : Byte).toNat) ∧
      (HoldsRequest (asked 48 [11, 1, 1, 3]) .a 48 7 [11, 1, 1, 3] ∧ Open (asked 48 [11, 1, 1, 3]) .a ∧
        3 ≤ (3 : Byte).toNat) ∧
      (HoldsRequest (asked 50 [12, 1]) .a 50 7 [12, 1] ∧ Open (asked 50 [12, 1]) .a) ∧
      (HoldsRequest (asked 56 [8, 2, 2, 0, 1]) .a 56 7 [8, 2, 2, 0, 1] ∧ Open (asked 56 [8, 2, 2, 0, 1]) .a ∧
        8 ≤ (8 : Byte).toNat) ∧
      (HoldsRequest (asked 60 [8]) .a 60 7 [8] ∧ Open (asked 60 [8]) .a) ∧
      HoldsRequest (asked 64 [0, 0, 3, 0, 0, 0, 0, 1, 0, 0, 0]) .a 64 7 [0, 0, 3, 0, 0, 0, 0, 1, 0, 0, 0] ∧
        Open (asked 64 [0, 0, 3, 0, 0, 0, 0, 1, 0, 0, 0]) .a ∧ (3 : Byte) = 3 ∧ number2 0 0 = 0 := by
  refine ⟨⟨(asked_held ..).1, by decide⟩, asked_held .., asked_held .., asked_held .., ⟨(asked_held ..).1, rfl, by decide⟩,
    ⟨(asked_held ..).1, rfl, by decide⟩, ⟨(asked_held ..).1, rfl, by decide⟩, asked_held ..,
    ⟨(asked_held ..).1, rfl, by decide⟩, asked_held .., (asked_held ..).1, rfl, by decide, by decide⟩

set_option maxRecDepth 20000 in
theorem witness_NopIsAnsweredEmpty :
    HoldsRequest (asked 0 []) .a 0 7 [] ∧
      ((List.replicate 48 (0 : Byte)) ≠ [] ∧ (List.replicate 48 (0 : Byte)).length ≤ 48 ∧
        HoldsRequest (asked 0 (List.replicate 48 0)) .a 0 7 (List.replicate 48 0)) ∧
      (shifted rich .a [0, 1, 0, 20]).takenFrame .a = some ⟨0, 1, [], 20⟩ ∧ (RequestFrame.mk 0 1 [] 20).opcode = 0 ∧
        (RequestFrame.mk 0 1 [] 20).sound = false :=
  ⟨(asked_held ..).1, ⟨by decide, by decide, (asked_held ..).1⟩, by decide, rfl, by decide⟩

/-! ## Witnesses: sessions and notices -/

theorem witness_OpenStartsASession :
    (HoldsRequest (asking rich .c 1 7 [255, 1]) .c 1 7 [255, 1] ∧ boolOf 1 = some true ∧
        ((asking rich .c 1 7 [255, 1]).session .c).isOpen = false) ∧
      HoldsRequest (asked 1 [0, 0]) .a 1 7 [0, 0] ∧ boolOf 0 = some false ∧ ((asked 1 [0, 0]).session .a).isOpen = true :=
  ⟨⟨holds_asking .., by decide, by decide⟩, (asked_held ..).1, by decide, by decide⟩

theorem witness_CloseEndsTheSession :
    (HoldsRequest (asked 2 []) .a 2 7 [] ∧ Open (asked 2 []) .a) ∧ WaitListsConsistent (asked 2 []) ∧
      ScheduleInRoom (asked 2 []) := ⟨asked_held .., rich_wait_lists, rich_in_room⟩

theorem witness_PortResetClearsThePort :
    (HoldsRequest (asked 3 []) .a 3 7 [] ∧ Open (asked 3 []) .a ∧ WaitListsConsistent (asked 3 []) ∧
        ScheduleInRoom (asked 3 [])) ∧
      HoldsRequest (asking rich .c 3 7 []) .c 3 7 [] ∧ ¬ Open (asking rich .c 3 7 []) .c ∧
        WaitListsConsistent (asking rich .c 3 7 []) ∧ ScheduleInRoom (asking rich .c 3 7 []) :=
  ⟨⟨(asked_held ..).1, rfl, rich_wait_lists, rich_in_room⟩, holds_asking .., by unfold Open; decide, rich_wait_lists, rich_in_room⟩

/-- A timer that the next period takes to its limit, ones a period and a unit short of it, and a closed session. -/
theorem witness_SilenceExpiryEndsTheSession :
    (∃ s : State, Open s .a ∧ (s.session .a).timer = some ⟨4, 261⟩ ∧ 4 + 1 = (s.session .a).silenceLimit ∧
        WaitListsConsistent s ∧ ScheduleInRoom s) ∧
      (∀ r ∈ [(3, 261), (4, 260)], ∃ s : State, (s.session .a).timer = some ⟨r.1, r.2⟩ ∧ r.2 < 262 ∧
        (r.1 + 1 < (s.session .a).silenceLimit ∨ r.1 < (s.session .a).silenceLimit ∧ r.2 < 261)) ∧
      ¬ Open rich .c := by
  refine ⟨⟨rich.setSession .a { session with timer := some ⟨4, 261⟩ }, rfl, rfl, rfl, rich_wait_lists, rich_in_room⟩,
    fun r hr => ⟨rich.setSession .a { session with timer := some ⟨r.1, r.2⟩ }, rfl, ?_⟩, by unfold Open; decide⟩
  exact (by decide : ∀ r ∈ [(3, 261), (4, 260)], r.2 < 262 ∧ (r.1 + 1 < 5 ∨ r.1 < 5 ∧ r.2 < 261)) r hr

theorem witness_SessionlessStatusRequestsReport :
    HoldsRequest (asked 4 []) .a 4 7 [] ∧ HoldsRequest (asking rich .d 24 255 []) .d 24 255 [] :=
  ⟨(asked_held ..).1, holds_asking ..⟩

theorem witness_IdentNamesThePart : HoldsRequest (asking rich .d 5 0 []) .d 5 0 [] := holds_asking ..

theorem witness_ReadNoticesTakesUrgentFirst :
    (∀ (number : Byte) (urgent : Bool) (stamp : Time), ∃ lead : Nat → List Byte, ∀ first, lead first =
        [byte (first + if urgent then 16 else 0), number] ++ bytes2 stamp.frame.toNat ++ bytes3 stamp.phase) ∧
      ((HoldsRequest (asked 8 [4]) .a 8 7 [4] ∧ Open (asked 8 [4]) .a) ∧ 1 ≤ (4 : Byte).toNat ∧ (4 : Byte).toNat ≤ 4) ∧
      ((HoldsRequest (asked 8 [0]) .a 8 7 [0] ∧ Open (asked 8 [0]) .a) ∧ (0 : Byte).toNat = 0) ∧
      (HoldsRequest (asked 8 [5]) .a 8 7 [5] ∧ Open (asked 8 [5]) .a) ∧ 4 < (5 : Byte).toNat :=
  ⟨fun _ _ _ => ⟨_, fun _ => rfl⟩, ⟨asked_held .., by decide⟩, ⟨asked_held .., by decide⟩, asked_held .., by decide⟩

theorem witness_SetNoticeMapsReplacesBothMaps :
    ((HoldsRequest (asked 9 [7, 255, 0, 0]) .a 9 7 [7, 255, 0, 0] ∧ Open (asked 9 [7, 255, 0, 0]) .a) ∧
        number2 7 255 < 2048 ∧ number2 0 0 < 2048) ∧
      (HoldsRequest (asked 9 [0, 0, 8, 0]) .a 9 7 [0, 0, 8, 0] ∧ Open (asked 9 [0, 0, 8, 0]) .a) ∧ 2048 ≤ number2 8 0 :=
  ⟨⟨asked_held .., by decide⟩, asked_held .., by decide⟩

theorem witness_AckConditionsClearsTheNamedFlags :
    (HoldsRequest (asking rich .c 10 7 [7]) .c 10 7 [7] ∧ ((asking rich .c 10 7 [7]).session .c).isOpen = false) ∧
      ((HoldsRequest (asked 10 [7]) .a 10 7 [7] ∧ Open (asked 10 [7]) .a) ∧ (7 : Byte).toNat < 8) ∧
      (HoldsRequest (asked 10 [8]) .a 10 7 [8] ∧ Open (asked 10 [8]) .a) ∧ 8 ≤ (8 : Byte).toNat :=
  ⟨⟨holds_asking .., by decide⟩, ⟨asked_held .., by decide⟩, asked_held .., by decide⟩

def aNotice (urgent : Bool) : Notice := { number := 0, urgent, stamp := ⟨0, 0⟩, body := .tbFrame 64 }

/-- `rich` with queues of host A of two given lengths. -/
def queued (urgent routine : Nat) : State :=
  rich.setNotice .a
    { NoticeRec.reset with
      urgent := List.replicate urgent (aNotice true), routine := aNotice false :: List.replicate (routine - 1) (aNotice false) }

/-- The cases: a closed session; a queue of 31; full queues that an urgent notice (TB_STATE) finds with and without a routine one,
and that a routine one (TB_FRAME) finds. -/
theorem witness_NoticeArrivalFillsDisplacesOrDrops :
    (rich.session .c).isOpen = false ∧ (Open (queued 30 1) .a ∧ ((queued 30 1).noticeRec .a).held.length < 32) ∧
      (Open (queued 31 1) .a ∧ ((queued 31 1).noticeRec .a).held.length = 32 ∧
        KindSet.has ((queued 31 1).noticeRec .a).urgencyMap (NoticeBody.tbState .halted .stop).kind = true ∧
        ((queued 31 1).noticeRec .a).routine = aNotice false :: []) ∧
      (Open (queued 0 32) .a ∧ ((queued 0 32).noticeRec .a).held.length = 32 ∧
        KindSet.has ((queued 0 32).noticeRec .a).urgencyMap (NoticeBody.tbFrame 64).kind = false) ∧
      ∃ s : State, Open s .a ∧ (s.noticeRec .a).held.length = 32 ∧ (s.noticeRec .a).routine = [] :=
  ⟨rfl, ⟨rfl, by decide⟩, ⟨rfl, by decide, by decide, rfl⟩, ⟨rfl, by decide, by decide⟩,
    ⟨rich.setNotice .a { NoticeRec.reset with urgent := List.replicate 32 (aNotice true) }, rfl, by decide, rfl⟩⟩

/-! ## Witnesses: the requests of the timebase -/

/-- Port A holds the request while the timebase record is `f` of that of `rich`. -/
abbrev askedTb (f : Timebase → Timebase) (code : Nat) (payload : List Byte) : State := asking (richTb f) .a code 7 payload

theorem askedTb_held (f : Timebase → Timebase) (code : Nat) (payload : List Byte) :
    HoldsRequest (askedTb f code payload) .a code 7 payload ∧ Open (askedTb f code payload) .a := held_by_a ..

theorem askedTb_in_room (f : Timebase → Timebase) (code : Nat) (payload : List Byte) :
    ScheduleInRoom (askedTb f code payload) := rich_in_room

theorem witness_TbHoldGrantsOnlyAFreeHold :
    (HoldsRequest (asking rich .d 16 7 []) .d 16 7 [] ∧ ((asking rich .d 16 7 []).session .d).isOpen = false) ∧
      ∀ holder ∈ [none, some HostId.a, some .b],
        ∃ s : State, (HoldsRequest s .a 16 7 [] ∧ Open s .a) ∧ s.tb.holder = holder :=
  ⟨⟨holds_asking .., by decide⟩, fun holder _ => ⟨_, askedTb_held (fun t => { t with holder }) 16 [], rfl⟩⟩

theorem witness_TbReleaseGivesUpTheHold :
    (∃ s : State, (HoldsRequest s .a 17 7 [] ∧ Open s .a) ∧ ScheduleInRoom s ∧ s.tb.holder ≠ some .a) ∧
      (∃ s : State, (HoldsRequest s .a 17 7 [] ∧ Open s .a) ∧ ScheduleInRoom s ∧ s.tb.holder = some .a ∧ s.tb.mode ≠ .running) ∧
      (∃ s : State, (HoldsRequest s .a 17 7 [] ∧ Open s .a) ∧ ScheduleInRoom s ∧ s.tb.holder = some .a ∧ s.tb.staged = none ∧
        s.tb.pendingStop = false) ∧
      ∃ s : State, (HoldsRequest s .a 17 7 [] ∧ Open s .a) ∧ ScheduleInRoom s ∧ s.tb.holder = some .a ∧ s.tb.mode = .running ∧
        s.tb.staged.isSome = true ∧ s.tb.pendingStop = true :=
  ⟨⟨_, askedTb_held (fun t => { t with holder := none }) 17 [], rich_in_room, by decide⟩,
    ⟨_, askedTb_held (fun t => { t with mode := .refLost }) 17 [], rich_in_room, by decide⟩,
    ⟨_, askedTb_held id 17 [], rich_in_room, by decide⟩,
    ⟨_, askedTb_held (fun t => { t with staged := some 64, pendingStop := true }) 17 [], rich_in_room, by decide⟩⟩

/-- A TB_START of host A, the holder: NOW or ON_SYNC, RESUME or RESTART, run limit 65535. -/
def starts (s : State) (mode source : Byte) (onSync restart : Bool) : Prop :=
  (HoldsRequest s .a 18 7 [mode, source, 255, 255] ∧ Open s .a) ∧ s.tb.holder = some .a ∧ boolOf mode = some onSync ∧
    boolOf source = some restart ∧ ScheduleInRoom s

theorem witness_TbStartStartsTheTimebase :
    (∃ s : State, (HoldsRequest s .a 18 7 [0, 0, 255, 255] ∧ Open s .a) ∧ boolOf 0 = some false ∧ s.tb.holder ≠ some .a) ∧
      (∃ s, starts s 1 1 true true ∧ s.tb.mode = .refLost ∧ s.tb.monitor.verdict = .present) ∧
      (∃ s, starts s 0 0 false false ∧ s.tb.mode = .halted ∧ s.tb.monitor.verdict = .present) ∧
      (∃ s, starts s 0 0 false false ∧ s.tb.mode = .refLost ∧ s.tb.monitor.verdict = .absent) ∧
      (∃ s, starts s 1 0 true false ∧ s.tb.mode = .running ∧ s.tb.pendingStop = true) ∧
      (∃ s, starts s 0 0 false false ∧ s.tb.mode = .awaitingSync) ∧
      (∃ s, starts s 0 0 false false ∧ s.tb.mode = .running ∧ s.tb.pendingStop = false) ∧
      ∃ s, starts s 0 1 false true ∧ s.tb.mode = .running ∧ s.tb.pendingStop = true :=
  ⟨⟨_, askedTb_held (fun t => { t with holder := some .b }) 18 [0, 0, 255, 255], by decide, by decide⟩,
    ⟨_, ⟨askedTb_held (fun t => { t with mode := .refLost }) 18 [1, 1, 255, 255], rfl, by decide, by decide, rich_in_room⟩,
      by decide⟩,
    ⟨_, ⟨askedTb_held (fun t => { t with mode := .halted }) 18 [0, 0, 255, 255], rfl, by decide, by decide, rich_in_room⟩,
      by decide⟩,
    ⟨_, ⟨askedTb_held (fun t => { t with mode := .refLost, monitor := ⟨.absent, 0, 1, false⟩ }) 18 [0, 0, 255, 255], rfl,
      by decide, by decide, rich_in_room⟩, by decide⟩,
    ⟨_, ⟨askedTb_held (fun t => { t with pendingStop := true }) 18 [1, 0, 255, 255], rfl, by decide, by decide, rich_in_room⟩,
      by decide⟩,
    ⟨_, ⟨askedTb_held (fun t => { t with mode := .awaitingSync }) 18 [0, 0, 255, 255], rfl, by decide, by decide, rich_in_room⟩,
      by decide⟩,
    ⟨_, ⟨askedTb_held id 18 [0, 0, 255, 255], rfl, by decide, by decide, rich_in_room⟩, by decide⟩,
    ⟨_, ⟨askedTb_held (fun t => { t with pendingStop := true }) 18 [0, 1, 255, 255], rfl, by decide, by decide, rich_in_room⟩,
      by decide⟩⟩

theorem witness_TbStopHaltsTheTimebase :
    (∀ mode ∈ [TbMode.halted, .awaitingSync, .refLost, .running], ∀ b ∈ [(0, false), ((1 : Byte), true)],
      ∃ s : State, (HoldsRequest s .a 19 7 [b.1] ∧ Open s .a) ∧ s.tb.holder = some .a ∧ boolOf b.1 = some b.2 ∧
        ScheduleInRoom s ∧ s.tb.mode = mode) ∧
      ∃ s : State, (HoldsRequest s .a 19 7 [1] ∧ Open s .a) ∧ boolOf 1 = some true ∧ s.tb.holder ≠ some .a := by
  refine ⟨?_, _, askedTb_held (fun t => { t with holder := none }) 19 [1], by decide, by decide⟩
  intro mode _ b hb
  refine ⟨_, askedTb_held (fun t => { t with mode }) 19 [b.1], rfl, ?_, rich_in_room, rfl⟩
  rcases List.mem_cons.mp hb with rfl | hb
  · decide
  · rw [List.mem_singleton.mp hb]
    decide

theorem witness_TbSetFrameAppliesOrStagesTheLength :
    ((HoldsRequest (asked 20 [0, 0, 63]) .a 20 7 [0, 0, 63] ∧ Open (asked 20 [0, 0, 63]) .a) ∧ lengthOf 0 0 63 < 64 ∧
        ScheduleInRoom (asked 20 [0, 0, 63])) ∧
      (∃ s : State, (HoldsRequest s .a 20 7 [0, 0, 64] ∧ Open s .a) ∧ 64 ≤ lengthOf 0 0 64 ∧ s.tb.holder ≠ some .a ∧
        ScheduleInRoom s) ∧
      (∃ s : State, (HoldsRequest s .a 20 7 [0, 0, 100] ∧ Open s .a) ∧ s.tb.holder = some .a ∧ s.tb.mode ≠ .running ∧
        64 ≤ lengthOf 0 0 100 ∧ lengthOf 0 0 100 ≤ s.tb.now.phase ∧ ScheduleInRoom s) ∧
      (∃ s : State, (HoldsRequest s .a 20 7 [0, 0, 101] ∧ Open s .a) ∧ s.tb.holder = some .a ∧ s.tb.mode ≠ .running ∧
        64 ≤ lengthOf 0 0 101 ∧ s.tb.now.phase < lengthOf 0 0 101 ∧ ScheduleInRoom s) ∧
      (HoldsRequest (asked 20 [0, 0, 0]) .a 20 7 [0, 0, 0] ∧ Open (asked 20 [0, 0, 0]) .a) ∧ 64 ≤ lengthOf 0 0 0 ∧
        (asked 20 [0, 0, 0]).tb.holder = some .a ∧ (asked 20 [0, 0, 0]).tb.mode = .running ∧
        ScheduleInRoom (asked 20 [0, 0, 0]) :=
  ⟨⟨asked_held .., by decide, rich_in_room⟩,
    ⟨_, askedTb_held (fun t => { t with holder := some .b }) 20 [0, 0, 64], by decide, by decide, rich_in_room⟩,
    ⟨_, askedTb_held (fun t => { t with mode := .halted }) 20 [0, 0, 100], rfl, by decide, by decide, by decide, rich_in_room⟩,
    ⟨_, askedTb_held (fun t => { t with mode := .refLost }) 20 [0, 0, 101], rfl, by decide, by decide, by decide, rich_in_room⟩,
    asked_held .., by decide, rfl, rfl, rich_in_room⟩

theorem witness_TbSetSyncAndPrescaleRecordTheirValues :
    ((HoldsRequest (asked 21 [1, 0, 0, 251]) .a 21 7 [1, 0, 0, 251] ∧ Open (asked 21 [1, 0, 0, 251]) .a) ∧
        syncModeOf 1 = some .align ∧ (asked 21 [1, 0, 0, 251]).tb.length / 4 < number3 0 0 251) ∧
      (∀ holder ∈ [none, some HostId.a], ∃ s : State, (HoldsRequest s .a 21 7 [0, 0, 0, 250] ∧ Open s .a) ∧
        syncModeOf 0 = some .none ∧ number3 0 0 250 ≤ s.tb.length / 4 ∧ s.tb.holder = holder) ∧
      ∀ holder ∈ [some HostId.b, some .a], ∀ mode ∈ [TbMode.halted, .refLost, .awaitingSync, .running],
        ∃ s : State, (HoldsRequest s .a 22 7 [0] ∧ Open s .a) ∧ s.tb.holder = holder ∧ s.tb.mode = mode :=
  ⟨⟨asked_held .., by decide⟩,
    fun holder _ => ⟨_, askedTb_held (fun t => { t with holder }) 21 [0, 0, 0, 250], by decide,
      show number3 0 0 250 ≤ 1000 / 4 by decide, rfl⟩,
    fun holder _ mode _ => ⟨_, askedTb_held (fun t => { t with holder, mode }) 22 [0], rfl, rfl⟩⟩

theorem witness_ReadTimeReportsTheCurrentTime :
    HoldsRequest (asking rich .d 23 7 []) .d 23 7 [] ∧ State.reset.tb.mode ≠ .running := ⟨holds_asking .., by decide⟩

/-! ## Witnesses: the clock, the pins and the reference -/

theorem witness_TickAdvancesThePhase :
    rich.tb.mode = .running ∧ TimebaseInRange rich ∧ rich.tb.now.phase + 1 < rich.tb.length :=
  ⟨rfl, rich_timebase.1, by decide⟩

/-- S1, without a reflex, with two TICK samples of a new level behind it. -/
def sampling (state : ChannelState) (counter : Nat) : State :=
  rich.setChannel 1
    { rich.channel 1 with filter := .tick, pin := true, filterCount := 2, prescale := 1, state, counter }

/-- The third sample finds the channel GATED, one edge short of its count, and at its count. -/
theorem witness_TheThirdTickSample :
    ∀ r ∈ [(ChannelState.gated, 0), (.opened, 0), (.opened, 1)],
      (sampling r.1 r.2).tb.mode = .running ∧ (sampling r.1 r.2).tb.prescale ≤ (sampling r.1 r.2).tb.divider + 1 ∧
        (sampling r.1 r.2).tb.now.phase + 1 < (sampling r.1 r.2).tb.length ∧
        ((sampling r.1 r.2).channel 1).filter = .tick ∧
        ((sampling r.1 r.2).channel 1).pin ≠ ((sampling r.1 r.2).channel 1).settled ∧
        ((sampling r.1 r.2).channel 1).filterCount = 2 ∧
        (∀ d : ChannelId, d ≠ 1 → ((sampling r.1 r.2).channel d).filter ≠ .off →
          ((sampling r.1 r.2).channel d).pin ≠ ((sampling r.1 r.2).channel d).settled →
          ((sampling r.1 r.2).channel d).filterCount < 2) ∧
        ((sampling r.1 r.2).channel 1).state = r.1 ∧ ((sampling r.1 r.2).channel 1).counter = r.2 ∧
        dueAt (sampling r.1 r.2) ⟨5, 101⟩ = [] ∧ (sampling r.1 r.2).reflex 1 = none := by
  decide

/-- A tick at which nothing falls due, which ends the pulse of D3, and one at which the SET of D0 does. -/
theorem witness_QuietTickCountsPulsesAndSamples :
    (rich.tb.mode = .running ∧ rich.tb.prescale ≤ rich.tb.divider + 1 ∧ rich.tb.now.phase + 1 < rich.tb.length ∧
        (∀ k : ChannelId, (rich.channel k).filter ≠ .off → (rich.channel k).pin ≠ (rich.channel k).settled →
          (rich.channel k).filterCount < 2) ∧
        (rich.line 3).pulse = some 1 ∧ (rich.claim 3).state ≠ .free ∧
        dueAt rich ⟨rich.tb.now.frame, rich.tb.now.phase + 1⟩ = []) ∧
      (∃ s : State, s.tb.mode = .running ∧ s.tb.prescale ≤ s.tb.divider + 1 ∧ s.tb.now.phase + 1 < s.tb.length ∧
        (∀ k : ChannelId, (s.channel k).filter ≠ .off → (s.channel k).pin ≠ (s.channel k).settled →
          (s.channel k).filterCount < 2) ∧
        dueAt s ⟨s.tb.now.frame, s.tb.now.phase + 1⟩ = [entry0] ∧ groupOn 0 [entry0] = [.set]) ∧
      ScheduleInRoom rich ∧ RecurrencesInRange rich :=
  ⟨by decide, ⟨richTb (fun t => { t with now := ⟨5, 199⟩ }), by decide⟩, rich_in_room, rich_schedule.2.1⟩

/-- `rich` at the last phase of its frame, LOCKED after two misses. -/
def lastPhase (pendingStop : Bool) (runLimit : Nat) : State :=
  richTb fun t => { t with now := ⟨5, 999⟩, pendingStop, runLimit, syncMode := .align, lock := .locked, missCount := 2 }

/-- The last phase of the frame: a pending stop, a run limit of 1, neither; a third miss; a line that returns to idle. -/
theorem witness_NaturalWrapBeginsTheNextFrame :
    (∀ r ∈ [(true, 0), (true, 1), (false, 1), (false, 65535)],
      (lastPhase r.1 r.2).tb.mode = .running ∧ TimebaseInRange (lastPhase r.1 r.2) ∧ MissesBelowLoss (lastPhase r.1 r.2) ∧
        (lastPhase r.1 r.2).tb.now.phase + 1 = (lastPhase r.1 r.2).tb.length ∧
        (lastPhase r.1 r.2).tb.pendingStop = r.1 ∧ (lastPhase r.1 r.2).tb.runLimit = r.2 ∧
        (lastPhase r.1 r.2).tb.syncMode = .align ∧ (lastPhase r.1 r.2).tb.lock = .locked ∧
        (lastPhase r.1 r.2).tb.missCount = 2 ∧ Open (lastPhase r.1 r.2) .a) ∧
      ∃ s : State, s.tb.mode = .running ∧ TimebaseInRange s ∧ MissesBelowLoss s ∧ s.tb.now.phase + 1 = s.tb.length ∧
        (s.tb.syncMode ≠ .align ∧ s.tb.lock ≠ .locked) ∧ s.tb.prescale ≤ s.tb.divider + 1 ∧
        (∀ k : ChannelId, (s.channel k).filter ≠ .off → (s.channel k).pin ≠ (s.channel k).settled →
          (s.channel k).filterCount < 2) ∧
        (∀ e ∈ s.entries, e.due ≠ ⟨s.tb.now.frame + 1, 0⟩) ∧ (s.claim 3).state ≠ .free ∧
        (s.line 3).settings.frameReturn = true ∧ ScheduleInRoom s ∧ RecurrencesInRange s := by
  refine ⟨by unfold TimebaseInRange MissesBelowLoss Open; decide, richTb (fun t => { t with now := ⟨5, 999⟩ }), by decide,
    by unfold TimebaseInRange; decide, by unfold MissesBelowLoss; decide, by decide, by decide, by decide, by decide, by decide,
    by decide, by decide, rich_in_room, rich_schedule.2.1⟩

/-- The edges of a LOCKED frame of 1000 ticks with a window of 50: late at phase 49 after a miss, early at phases 50 and 949, on
time at phase 950 (section 2.9). -/
theorem witness_SyncEdgeStartsSetsBackOrAligns :
    (∃ s : State, (ScheduleInRoom s ∧ RecurrencesInRange s) ∧ s.tb.mode = .awaitingSync) ∧
      (∃ s : State, (ScheduleInRoom s ∧ RecurrencesInRange s) ∧ s.tb.mode = .halted) ∧
      (∃ s : State, (ScheduleInRoom s ∧ RecurrencesInRange s) ∧ s.tb.mode = .running ∧ s.tb.syncMode = .none) ∧
      (∃ s : State, (ScheduleInRoom s ∧ RecurrencesInRange s) ∧ s.tb.mode = .running ∧ s.tb.syncMode = .align ∧
        s.tb.lock = .locked ∧ s.tb.now.phase < min s.tb.window (s.tb.length / 4) ∧ s.tb.prevMissed = true ∧
        s.tb.now.phase < s.tb.length - min s.tb.window (s.tb.length / 4)) ∧
      (∃ s : State, (ScheduleInRoom s ∧ RecurrencesInRange s) ∧ s.tb.mode = .running ∧ s.tb.syncMode = .align ∧
        s.tb.lock ≠ .locked) ∧
      (∃ s : State, (ScheduleInRoom s ∧ RecurrencesInRange s) ∧ s.tb.mode = .running ∧ s.tb.syncMode = .align ∧
        s.tb.lock = .locked ∧ min s.tb.window (s.tb.length / 4) ≤ s.tb.now.phase ∧
        s.tb.now.phase < s.tb.length - min s.tb.window (s.tb.length / 4)) ∧
      ∃ s : State, (ScheduleInRoom s ∧ RecurrencesInRange s) ∧ s.tb.mode = .running ∧ s.tb.syncMode = .align ∧
        s.tb.lock = .locked ∧ s.tb.length - min s.tb.window (s.tb.length / 4) ≤ s.tb.now.phase :=
  have room (f : Timebase → Timebase) : ScheduleInRoom (richTb f) ∧ RecurrencesInRange (richTb f) := ⟨rich_in_room, rich_schedule.2.1⟩
  ⟨⟨_, room fun t => { t with mode := .awaitingSync }, rfl⟩, ⟨_, room fun t => { t with mode := .halted }, rfl⟩,
    ⟨_, room id, by decide⟩,
    ⟨_, room fun t => { t with syncMode := .align, lock := .locked, window := 50, now := ⟨5, 49⟩, prevMissed := true }, by decide⟩,
    ⟨_, room fun t => { t with syncMode := .align, lock := .lost, missCount := 3 }, by decide⟩,
    ⟨_, room fun t => { t with syncMode := .align, lock := .locked, window := 50, now := ⟨5, 50⟩ }, by decide⟩,
    ⟨_, room fun t => { t with syncMode := .align, lock := .locked, window := 50, now := ⟨5, 950⟩ }, by decide⟩⟩

/-- A monitor with a declaration to make, and one short of it or with the other verdict, for each of the two. -/
theorem witness_MonitorDeclaresAbsentOrPresent :
    (∃ s : State, ScheduleInRoom s ∧ s.resetN = true ∧ s.tb.monitor.verdict = .present ∧ s.tb.monitor.edgeSeen = false ∧
        3 ≤ s.tb.monitor.withoutEdge ∧ Open s .a ∧ (s.claim 3).state ≠ .free ∧ (s.line 3).settings.safe = some true ∧
        (s.claim 4).state = .free ∧ (s.line 0).settings.safe = none) ∧
      (∃ s : State, ScheduleInRoom s ∧ s.resetN = true ∧ s.tb.monitor.verdict = .absent ∧ s.tb.monitor.edgeSeen = true ∧
        1 ≤ s.tb.monitor.withEdge) ∧
      (∃ s : State, ScheduleInRoom s ∧ s.resetN = false) ∧
      (∀ m ∈ [RefMonitor.mk .present 2 0 false, ⟨.present, 3, 0, true⟩, ⟨.absent, 0, 1, false⟩, ⟨.absent, 0, 0, true⟩],
        ∃ s : State, ScheduleInRoom s ∧ s.tb.monitor = m) :=
  ⟨⟨richTb fun t => { t with monitor := ⟨.present, 3, 0, false⟩ }, rich_in_room, rfl, rfl, rfl, by decide, rfl, by decide⟩,
    ⟨richTb fun t => { t with monitor := ⟨.absent, 0, 1, true⟩ }, rich_in_room, rfl, rfl, rfl, by decide⟩,
    ⟨rich.setResetN false, rich_in_room, rfl⟩, fun m _ => ⟨richTb fun t => { t with monitor := m }, rich_in_room, rfl⟩⟩

/-- A channel whose REFCLK filter has taken two samples of a new level, in each of the states the edge can find. -/
def filtering (state : ChannelState) (counter : Nat) : State :=
  (richTb fun t => { t with prescale := 256 }).setChannel 0
    { rich.channel 0 with filter := .refclk, pin := true, filterCount := 2, state, counter }

theorem witness_RefclkCycleCountsAndSamples :
    (∃ s : State, s.resetN = false) ∧
      (rich.resetN = true ∧ rich.tb.mode = .running ∧ rich.tb.prescale ≤ rich.tb.divider + 1) ∧
      ((richTb fun t => { t with prescale := 256 }).resetN = true ∧
        (richTb fun t => { t with prescale := 256 }).tb.divider + 1 < 256 ∧ ∀ k : ChannelId,
        (rich.channel k).filter = .refclk → (rich.channel k).pin ≠ (rich.channel k).settled → (rich.channel k).filterCount < 2) ∧
      ∀ r ∈ [(ChannelState.idle, 0), (.opened, 1), (.opened, 2)],
        (filtering r.1 r.2).resetN = true ∧ (filtering r.1 r.2).tb.divider + 1 < (filtering r.1 r.2).tb.prescale ∧
          ((filtering r.1 r.2).channel 0).filter = .refclk ∧
          ((filtering r.1 r.2).channel 0).pin ≠ ((filtering r.1 r.2).channel 0).settled ∧
          ((filtering r.1 r.2).channel 0).filterCount = 2 ∧ ((filtering r.1 r.2).channel 0).state = r.1 ∧
          ((filtering r.1 r.2).channel 0).counter = r.2 ∧ ((filtering r.1 r.2).channel 0).prescale = 2 ∧
          ∀ k : ChannelId, k ≠ 0 → ((filtering r.1 r.2).channel k).filter = .refclk →
            ((filtering r.1 r.2).channel k).pin ≠ ((filtering r.1 r.2).channel k).settled →
            ((filtering r.1 r.2).channel k).filterCount < 2 :=
  ⟨⟨rich.setResetN false, rfl⟩, by decide⟩

/-! ## Witnesses: the schedule -/

/-- A one-shot SCHEDULE with notify No and late policy FIRE_LATE. -/
def oneShot (action target f1 f0 p2 p1 p0 : Byte) : List Byte := [action, target, f1, f0, p2, p1, p0, 0, 0, 0, 0, 0, 0, 15, 0, 0]

/-- Port A holds that SCHEDULE, in a state made from `rich`. -/
def posting (make : State → State) (action target f1 f0 p2 p1 p0 : Byte) : State :=
  asking (make rich) .a 32 7 (oneShot action target f1 f0 p2 p1 p0)

/-- A SET of D3, which A holds alone, at the far end of the horizon: frame 4100 is 4095 ahead of frame 5, and 999 is the last phase. -/
theorem witness_ScheduleJoinsALaterDueTime :
    HoldsRequest (posting id 0 3 16 4 0 3 231) .a 32 7 (oneShot 0 3 16 4 0 3 231) ∧ Open (posting id 0 3 16 4 0 3 231) .a ∧
      deedOf 0 3 (number2 0 0) = some (setOn 3) ∧ recurrenceOf 0 0 (number2 0 0) = some none ∧ tagOf 15 = some 15 ∧
      latePolicyOf 0 = some .fireLate ∧ notifyOf (decide (setOn 3 = .mark)) 0 = some false ∧
      (⟨4100, 999⟩ : Time) = ⟨BitVec.ofNat 16 (number2 16 4), number3 0 3 231⟩ ∧
      (∀ l, (setOn 3).line = some l → ((posting id 0 3 16 4 0 3 231).claim l).holders.get .a = true ∧
        ((posting id 0 3 16 4 0 3 231).claim l).state ≠ .shared) ∧
      (∀ c, (setOn 3).rearms = some c → ((posting id 0 3 16 4 0 3 231).channel c).subscribers.get .a = true) ∧
      (posting id 0 3 16 4 0 3 231).tb.mode ≠ .refLost ∧
      leadOf (posting id 0 3 16 4 0 3 231).tb.now.frame 4100 = 4095 ∧ (999 : Nat) < (posting id 0 3 16 4 0 3 231).tb.length ∧
      (posting id 0 3 16 4 0 3 231).entries.length < 96 ∧ (posting id 0 3 16 4 0 3 231).ownCount .a < 32 :=
  ⟨holds_asking .., rfl, by decide, by decide, by decide, by decide, by decide, by decide, by decide, by decide, by decide,
    by decide, by decide, by decide, by decide⟩

/-- What every clause about a SCHEDULE that decodes asks: the request held, the session open, the action, and the lead of its due
frame. -/
def posts (s : State) (payload : List Byte) (deed : Deed) (due : Time) (lead : Nat) : Prop :=
  HoldsRequest s .a 32 7 payload ∧ Open s .a ∧ (∃ action target : Byte, payload.take 2 = [action, target] ∧
    deedOf action target 0 = some deed) ∧ leadOf s.tb.now.frame due.frame = lead

theorem posting_posts (make : State → State) (deed : Deed) (due : Time) (lead : Nat) (action target f1 f0 p2 p1 p0 : Byte)
    (h : ((posting make action target f1 f0 p2 p1 p0).session .a).isOpen = true ∧ deedOf action target 0 = some deed ∧
      leadOf (posting make action target f1 f0 p2 p1 p0).tb.now.frame due.frame = lead) :
    posts (posting make action target f1 f0 p2 p1 p0) (oneShot action target f1 f0 p2 p1 p0) deed due lead :=
  ⟨holds_asking .., h.1, ⟨action, target, rfl, h.2.1⟩, h.2.2⟩

/-- `rich` with a list of `a` entries of host A and `b` of host B. -/
def crowded (a b : Nat) (s : State) : State := s.setEntries (List.replicate a entry0 ++ List.replicate b entry2)

/-- One state for each refusal of the ten checks: an action of 6; D5, which A does not hold; S2, to which A does not subscribe; a
TOGGLE of D1, which is SHARED; a lost reference; the current phase of the current frame, and a frame 32768 ahead; a frame 4096
ahead; phase 1000 of this frame and of the last frame of the horizon; the due time of B's entry on D1; 96 entries; 32 entries
of A's. -/
theorem witness_ScheduleIsRefusedByItsFirstFailingCheck :
    (HoldsRequest (posting id 6 0 0 5 0 0 0) .a 32 7 (oneShot 6 0 0 5 0 0 0) ∧ deedOf 6 0 (number2 0 0) = none) ∧
      (posts (posting id 0 5 0 6 0 0 0) (oneShot 0 5 0 6 0 0 0) (setOn 5) ⟨6, 0⟩ 1 ∧
        ((posting id 0 5 0 6 0 0 0).claim 5).holders.get .a = false) ∧
      (posts (posting id 4 2 0 6 0 0 0) (oneShot 4 2 0 6 0 0 0) (.rearm 2) ⟨6, 0⟩ 1 ∧
        ((posting id 4 2 0 6 0 0 0).channel 2).subscribers.get .a = false) ∧
      (posts (posting id 2 1 0 6 0 0 0) (oneShot 2 1 0 6 0 0 0) (.onLine .toggle 1) ⟨6, 0⟩ 1 ∧
        ((posting id 2 1 0 6 0 0 0).claim 1).holders.get .a = true ∧
        ((posting id 2 1 0 6 0 0 0).claim 1).state = .shared) ∧
      (∃ s, posts s (oneShot 0 3 0 6 0 0 0) (setOn 3) ⟨6, 0⟩ 1 ∧ (s.claim 3).holders.get .a = true ∧ s.tb.mode = .refLost) ∧
      (posts (posting id 0 3 0 5 0 0 100) (oneShot 0 3 0 5 0 0 100) (setOn 3) ⟨5, 100⟩ 0 ∧
        (100 : Nat) ≤ (posting id 0 3 0 5 0 0 100).tb.now.phase) ∧
      (posts (posting id 0 3 128 5 0 0 0) (oneShot 0 3 128 5 0 0 0) (setOn 3) ⟨32773, 0⟩ 32768 ∧ rich.tb.mode ≠ .refLost) ∧
      (posts (posting id 0 3 16 5 0 0 0) (oneShot 0 3 16 5 0 0 0) (setOn 3) ⟨4101, 0⟩ 4096 ∧ rich.tb.mode ≠ .refLost) ∧
      (posts (posting id 0 3 0 5 0 3 232) (oneShot 0 3 0 5 0 3 232) (setOn 3) ⟨5, 1000⟩ 0 ∧ rich.tb.length ≤ 1000) ∧
      (posts (posting id 0 3 16 4 0 3 232) (oneShot 0 3 16 4 0 3 232) (setOn 3) ⟨4100, 1000⟩ 4095 ∧
        rich.tb.staged.getD rich.tb.length ≤ 1000) ∧
      (posts (posting id 0 1 0 6 0 1 244) (oneShot 0 1 0 6 0 1 244) (setOn 1) ⟨6, 500⟩ 1 ∧
        ((posting id 0 1 0 6 0 1 244).claim 1).policy = .refuse ∧
        ∃ e ∈ (posting id 0 1 0 6 0 1 244).entries, e.deed.line = some 1 ∧ e.due = ⟨6, 500⟩) ∧
      (∃ s, posts s (oneShot 0 3 0 6 0 0 0) (setOn 3) ⟨6, 0⟩ 1 ∧ 96 ≤ s.entries.length) ∧
      ∃ s, posts s (oneShot 0 3 0 6 0 0 0) (setOn 3) ⟨6, 0⟩ 1 ∧ s.entries.length < 96 ∧ 32 ≤ s.ownCount .a :=
  ⟨⟨holds_asking .., by decide⟩, ⟨posting_posts _ _ _ _ _ _ _ _ _ _ _ (by decide), by decide⟩,
    ⟨posting_posts _ _ _ _ _ _ _ _ _ _ _ (by decide), by decide⟩, ⟨posting_posts _ _ _ _ _ _ _ _ _ _ _ (by decide), by decide⟩,
    ⟨_, posting_posts (fun s => s.setTb { s.tb with mode := .refLost }) _ _ _ _ _ _ _ _ _ _ (by decide), by decide⟩,
    ⟨posting_posts _ _ _ _ _ _ _ _ _ _ _ (by decide), by decide⟩, ⟨posting_posts _ _ _ _ _ _ _ _ _ _ _ (by decide), by decide⟩,
    ⟨posting_posts _ _ _ _ _ _ _ _ _ _ _ (by decide), by decide⟩, ⟨posting_posts _ _ _ _ _ _ _ _ _ _ _ (by decide), by decide⟩,
    ⟨posting_posts _ _ _ _ _ _ _ _ _ _ _ (by decide), by decide⟩, ⟨posting_posts _ _ _ _ _ _ _ _ _ _ _ (by decide), by decide⟩,
    ⟨_, posting_posts (crowded 3 93) _ _ _ _ _ _ _ _ _ _ (by decide), by decide⟩,
    ⟨_, posting_posts (crowded 32 3) _ _ _ _ _ _ _ _ _ _ (by decide), by decide⟩⟩

theorem witness_PlaceEntryKeepsDueTimeOrder :
    rich.entries.Pairwise fun x y => earlier 5 y.due x.due = false := by decide

/-- Slot 0, use 0 is A's entry, slot 2 is B's, slot 95 is free, slot 96 does not exist. -/
theorem witness_CancelRemovesTheOwnersEntries :
    ((HoldsRequest (asked 33 [0, 96]) .a 33 7 [0, 96] ∧ Open (asked 33 [0, 96]) .a) ∧ handleOf 0 96 = none) ∧
      ((HoldsRequest (asked 33 [0, 95]) .a 33 7 [0, 95] ∧ Open (asked 33 [0, 95]) .a) ∧ handleOf 0 95 = some ⟨95, 0⟩ ∧
        ∀ e ∈ (asked 33 [0, 95]).entries, e.handle ≠ ⟨95, 0⟩) ∧
      ((HoldsRequest (asked 33 [0, 2]) .a 33 7 [0, 2] ∧ Open (asked 33 [0, 2]) .a) ∧ handleOf 0 2 = some entry2.handle ∧
        entry2 ∈ (asked 33 [0, 2]).entries ∧ entry2.owner ≠ .a) ∧
      ((HoldsRequest (asked 33 [0, 0]) .a 33 7 [0, 0] ∧ Open (asked 33 [0, 0]) .a) ∧ handleOf 0 0 = some entry0.handle ∧
        entry0 ∈ (asked 33 [0, 0]).entries ∧ entry0.owner = .a) ∧
      ScheduleInRoom (asked 33 [0, 0]) ∧
      ∀ g ∈ [(0 : Byte), 16, 1, 15], HoldsRequest (asked 34 [g]) .a 34 7 [g] ∧ Open (asked 34 [g]) .a :=
  ⟨⟨asked_held .., by decide⟩, ⟨asked_held .., by decide⟩, ⟨asked_held .., by decide⟩, ⟨asked_held .., by decide⟩, rich_in_room,
    fun _ _ => asked_held ..⟩

theorem witness_SessionStatusRequestsReport :
    ((HoldsRequest (asked 35 [0, 1]) .a 35 7 [0, 1] ∧ Open (asked 35 [0, 1]) .a) ∧ handleOf 0 1 = some entry1.handle ∧
        (asked 35 [0, 1]).entries = [entry0] ++ entry1 :: [entry2] ∧ ∀ x ∈ [entry0], x.handle ≠ entry1.handle) ∧
      ((HoldsRequest (asked 35 [0, 96]) .a 35 7 [0, 96] ∧ Open (asked 35 [0, 96]) .a) ∧ handleOf 0 96 = none) ∧
      ((HoldsRequest (asked 35 [0, 129]) .a 35 7 [0, 129] ∧ Open (asked 35 [0, 129]) .a) ∧ handleOf 0 129 = some ⟨1, 1⟩ ∧
        ∀ e ∈ (asked 35 [0, 129]).entries, e.handle ≠ ⟨1, 1⟩) ∧
      (HoldsRequest (asked 36 []) .a 36 7 [] ∧ Open (asked 36 []) .a) ∧
      ((HoldsRequest (asked 52 [11]) .a 52 7 [11] ∧ Open (asked 52 [11]) .a) ∧ (11 : Byte).toNat = (11 : LineId).val) ∧
      (HoldsRequest (asked 60 [7]) .a 60 7 [7] ∧ Open (asked 60 [7]) .a) ∧ (7 : Byte).toNat = (7 : ChannelId).val :=
  ⟨⟨asked_held .., by decide⟩, ⟨asked_held .., by decide⟩, ⟨asked_held .., by decide⟩, asked_held .., ⟨asked_held .., rfl⟩,
    asked_held .., rfl⟩

/-- Re-insertions that fail: entry 1 goes to frame 8, phase 100, which a staged length of 100 governs; an entry of A's on D1, due at
frame 5, phase 500, meets B's at frame 6, phase 500. -/
theorem witness_FiredEntryThatCannotContinue :
    (∃ s : State, ScheduleInRoom s ∧ entry1 ∈ s.entries ∧ entry1.recurrence = some ⟨2, 3⟩ ∧ Open s entry1.owner ∧
        (8 : BitVec 16) = entry1.due.frame + BitVec.ofNat 16 2 ∧
        (if leadOf s.tb.now.frame 8 = 0 then s.tb.length else s.tb.staged.getD s.tb.length) ≤ entry1.due.phase) ∧
      ∃ s : State, ∃ e ∈ s.entries, ScheduleInRoom s ∧ e.recurrence = some ⟨1, 0⟩ ∧
        (⟨6, 500⟩ : Time) = ⟨e.due.frame + BitVec.ofNat 16 1, e.due.phase⟩ ∧
        500 < (if leadOf s.tb.now.frame 6 = 0 then s.tb.length else s.tb.staged.getD s.tb.length) ∧
        e.deed.line = some 1 ∧ (s.claim 1).state = .shared ∧ (s.claim 1).policy = .refuse ∧
        ∃ x ∈ s.entries, x.handle.slot ≠ e.handle.slot ∧ x.deed.line = some 1 ∧ x.due = ⟨6, 500⟩ :=
  ⟨⟨richTb (fun t => { t with staged := some 100 }), rich_in_room, by decide, rfl, rfl, by decide, by decide⟩,
    rich.setEntries [{ entry0 with deed := setOn 1, due := ⟨5, 500⟩, recurrence := some ⟨1, 0⟩ }, entry2], _,
    List.mem_cons_self, ⟨by decide, by decide, forall_hosts (by decide) (by decide) (by decide) (by decide)⟩, rfl, by decide,
    by decide, rfl, by decide, by decide, entry2, by decide⟩

/-- A one-shot entry; a recurring one at its last firing; one with three firings left and an unbounded one, whose new due time,
frame 8 of a part in frame 5, fits. -/
theorem witness_FiredEntryLeavesOrContinues :
    (ScheduleInRoom rich ∧ entry0 ∈ rich.entries ∧ entry0.recurrence = none) ∧
      (∃ s : State, ∃ e ∈ s.entries, ScheduleInRoom s ∧ e.recurrence = some ⟨255, 1⟩) ∧
      ∀ remaining ∈ [0, 3], ∃ s : State, ∃ e ∈ s.entries, ScheduleInRoom s ∧ e.recurrence = some ⟨2, remaining⟩ ∧
        remaining ≠ 1 ∧ (⟨8, 100⟩ : Time) = ⟨e.due.frame + BitVec.ofNat 16 2, e.due.phase⟩ ∧
        (100 : Nat) < (if leadOf s.tb.now.frame 8 = 0 then s.tb.length else s.tb.staged.getD s.tb.length) ∧
        e.deed.line = none := by
  refine ⟨⟨rich_in_room, by decide, rfl⟩,
    ⟨rich.setEntries [{ entry1 with recurrence := some ⟨255, 1⟩ }], _, List.mem_singleton.mpr rfl, ?_, rfl⟩,
    fun remaining hr => ⟨rich.setEntries [{ entry1 with recurrence := some ⟨2, remaining⟩ }], _, List.mem_singleton.mpr rfl,
      ?_, rfl, ?_, (by decide : (⟨8, 100⟩ : Time) = ⟨(6 : BitVec 16) + BitVec.ofNat 16 2, 100⟩),
      (by decide : (100 : Nat) < if leadOf (5 : BitVec 16) 8 = 0 then 1000 else (none : Option Nat).getD 1000), rfl⟩⟩
  · exact ⟨by decide, by decide, forall_hosts (by decide) (by decide) (by decide) (by decide)⟩
  · refine ⟨List.nodup_singleton _, (by decide : 1 ≤ 96), fun h => ?_⟩
    exact Nat.le_trans (List.countP_le_length (l := [_])) (by decide : 1 ≤ 32)
  · exact (by decide : ∀ n ∈ [0, 3], n ≠ 1) remaining hr

/-! ## Witnesses: claims and drive lines -/

/-- The payload of a CLAIM of line `line`: SHARED with policy CLEAR_WINS or EXCLUSIVE, safe level NONE. -/
def claimBytes (line mode wait : Byte) : List Byte := [line, mode, wait, 1, 1, 2, 2]

/-- A SHARED line of host B alone, with a wait list. -/
def sharedByB (waiting : List Place) : ClaimRec := ⟨.shared, ⟨false, true, false, false⟩, .setWins, waiting⟩

/-- Host A claims D2, SHARED and held by B, or another line, of `rich`. -/
def claiming (waiting : List Place) (line mode wait : Byte) : State :=
  asking (rich.setClaim 2 (sharedByB waiting)) .a 40 7 (claimBytes line mode wait)

theorem claiming_held (waiting : List Place) (line mode wait : Byte) :
    HoldsRequest (claiming waiting line mode wait) .a 40 7 (claimBytes line mode wait) ∧ Open (claiming waiting line mode wait) .a :=
  ⟨holds_asking .., rfl⟩

def aPlace (h : HostId) : Place := ⟨h, .exclusive, .cleared⟩

/-- A line A holds (D0), one it waits for, a FREE one (D11), a SHARED one with and without a wait list, an EXCLUSIVE one of B's. -/
theorem witness_ClaimGrantsJoinsQueuesOrRefuses :
    askOf 0 2 = some .exclusive ∧ askOf 1 2 = some (.shared .clearWins) ∧ boolOf 0 = some false ∧ boolOf 1 = some true ∧
      settingsOf 1 1 2 = some ⟨true, true, none⟩ ∧
      (∀ line mode wait waiting, HoldsRequest (claiming waiting line mode wait) .a 40 7 (claimBytes line mode wait) ∧
        Open (claiming waiting line mode wait) .a) ∧
      ((0 : Byte).toNat = (0 : LineId).val ∧ ((claiming [] 0 0 0).claim 0).holders.get .a = true) ∧
      ((2 : Byte).toNat = (2 : LineId).val ∧ ((claiming [aPlace .a] 2 0 0).claim 2).holders.get .a = false ∧
        ∃ w ∈ ((claiming [aPlace .a] 2 0 0).claim 2).waiting, w.host = .a) ∧
      ((11 : Byte).toNat = (11 : LineId).val ∧ ((claiming [] 11 0 0).claim 11).holders.get .a = false ∧
        (∀ w ∈ ((claiming [] 11 0 0).claim 11).waiting, w.host ≠ .a) ∧ ((claiming [] 11 0 0).claim 11).state = .free) ∧
      (((claiming [] 2 1 0).claim 2).holders.get .a = false ∧ ((claiming [] 2 1 0).claim 2).state = .shared ∧
        ((claiming [] 2 1 0).claim 2).waiting = []) ∧
      (((claiming [aPlace .c, aPlace .d] 2 1 1).claim 2).holders.get .a = false ∧
        (∀ w ∈ ((claiming [aPlace .c, aPlace .d] 2 1 1).claim 2).waiting, w.host ≠ .a) ∧
        ((claiming [aPlace .c, aPlace .d] 2 1 1).claim 2).state = .shared ∧
        ((claiming [aPlace .c, aPlace .d] 2 1 1).claim 2).waiting ≠ []) ∧
      ∃ s : State, (HoldsRequest s .a 40 7 (claimBytes 2 0 0) ∧ Open s .a) ∧ (s.claim 2).holders.get .a = false ∧
        (∀ w ∈ (s.claim 2).waiting, w.host ≠ .a) ∧ (s.claim 2).state = .exclusive :=
  ⟨by decide, by decide, by decide, by decide, by decide, fun _ _ _ _ => claiming_held .., by decide, by decide, by decide,
    by decide, by decide,
    asking (rich.setClaim 2 ⟨.exclusive, ⟨false, true, false, false⟩, .refuse, []⟩) .a 40 7 (claimBytes 2 0 0),
    ⟨holds_asking .., rfl⟩, by decide, by decide, by decide⟩

/-- B withdraws its EXCLUSIVE place on D7, SHARED and held by A, and C's SHARED place behind it heads the wait list. -/
theorem witness_ReleaseThatAdmits :
    (HoldsRequest (asking contested .b 41 7 [7]) .b 41 7 [7] ∧ Open (asking contested .b 41 7 [7]) .b) ∧
      ScheduleInRoom (asking contested .b 41 7 [7]) ∧ ((asking contested .b 41 7 [7]).claim 7).holders.get .b = false ∧
      ((asking contested .b 41 7 [7]).claim 7).state = .shared ∧
      ((asking contested .b 41 7 [7]).claim 7).waiting.filter (fun w => decide (w.host ≠ .b)) =
        [⟨.c, .shared .clearWins, .cleared⟩] ++ [] ∧
      Open (asking contested .b 41 7 [7]) .c ∧ ((asking contested .b 41 7 [7]).noticeRec .c).held.length + 1 ≤ 32 :=
  ⟨⟨holds_asking .., rfl⟩, ⟨by decide, by decide, forall_hosts (by decide) (by decide) (by decide) (by decide)⟩, by decide,
    by decide, by decide, rfl, by decide⟩

/-- Of `rich`: A and B share D1; A holds D3 alone with nobody waiting; B waits for D0, which A holds alone; B neither holds nor
awaits D11. -/
theorem witness_ReleaseGivesUpTheLine :
    (HoldsRequest (asked 41 [1]) .a 41 7 [1] ∧ Open (asked 41 [1]) .a) ∧ ScheduleInRoom (asked 41 [1]) ∧
      ((asked 41 [1]).claim 1).holders.get .a = true ∧ ((asked 41 [1]).claim 1).holders.get .b = true ∧
      (((asked 41 [3]).claim 3).holders.get .a = true ∧ ((asked 41 [3]).claim 3).waiting = [] ∧
        ∀ k, k ≠ .a → ((asked 41 [3]).claim 3).holders.get k = false) ∧
      ((HoldsRequest (asking rich .b 41 7 [0]) .b 41 7 [0] ∧ Open (asking rich .b 41 7 [0]) .b) ∧
        ((asking rich .b 41 7 [0]).claim 0).holders.get .b = false ∧
        ∃ w ∈ ((asking rich .b 41 7 [0]).claim 0).waiting, w.host = .b) ∧
      (HoldsRequest (asking rich .b 41 7 [11]) .b 41 7 [11] ∧ Open (asking rich .b 41 7 [11]) .b) ∧
        ((asking rich .b 41 7 [11]).claim 11).holders.get .b = false ∧
        ∀ w ∈ ((asking rich .b 41 7 [11]).claim 11).waiting, w.host ≠ .b :=
  ⟨asked_held .., rich_in_room, by decide, by decide,
    ⟨by decide, by decide, forall_hosts (by decide) (by decide) (by decide) (by decide)⟩,
    ⟨⟨holds_asking .., rfl⟩, by decide⟩, ⟨holds_asking .., rfl⟩, by decide⟩

theorem witness_LineIsHandedToTheHeadOfItsWaitList :
    (rich.claim 11).waiting = [] ∧ ((rich.claim 0).waiting = aPlace .b :: [] ∧ (aPlace .b).ask = .exclusive) ∧
      ∃ (s : State) (w : Place) (run behind : List Place), (s.claim 0).waiting = w :: (run ++ behind) ∧
        w.ask = .shared .setWins ∧ (∀ x ∈ run, x.ask ≠ .exclusive) ∧ (∀ x ∈ behind.head?, x.ask = .exclusive) ∧
        run.length = 1 ∧ behind.length = 1 :=
  ⟨by decide, by decide,
    rich.setClaim 0
      ⟨.exclusive, ⟨true, false, false, false⟩, .refuse, [⟨.b, .shared .setWins, .cleared⟩, ⟨.c, .shared .refuse, .cleared⟩, aPlace .d]⟩,
    ⟨.b, .shared .setWins, .cleared⟩, [⟨.c, .shared .refuse, .cleared⟩], [aPlace .d], by decide⟩

/-- A does not hold D11, and shares D1 with B. -/
theorem witness_OutputRequestsNeedSoleControl :
    ((11 : Byte).toNat = (11 : LineId).val ∧ (rich.claim 11).holders.get .a = false) ∧
      ((1 : Byte).toNat = (1 : LineId).val ∧ (rich.claim 1).holders.get .a = true ∧
        ∃ k, k ≠ .a ∧ (rich.claim 1).holders.get k = true) ∧
      settingsOf 1 0 1 = some ⟨true, false, some true⟩ ∧ boolOf 1 = some true ∧
      ∀ line : Byte,
        (HoldsRequest (asked 48 [line, 1, 0, 1]) .a 48 7 [line, 1, 0, 1] ∧ Open (asked 48 [line, 1, 0, 1]) .a) ∧
        (HoldsRequest (asked 49 [line]) .a 49 7 [line] ∧ Open (asked 49 [line]) .a) ∧
        (HoldsRequest (asked 50 [line, 1]) .a 50 7 [line, 1] ∧ Open (asked 50 [line, 1]) .a) ∧
        HoldsRequest (asked 51 [line]) .a 51 7 [line] ∧ Open (asked 51 [line]) .a :=
  ⟨by decide, ⟨by decide, by decide, .b, by decide⟩, by decide, by decide,
    fun _ => ⟨asked_held .., asked_held .., asked_held .., asked_held ..⟩⟩

/-- Port A holds an output request on D3, which A holds alone, DRIVEN or HELD. -/
def steering (output : OutputState) (code : Nat) (payload : List Byte) : State :=
  asking (rich.setLine 3 { rich.line 3 with output }) .a code 7 payload

theorem witness_OutputRequestsActOnTheHeldLine :
    (3 : Byte).toNat = (3 : LineId).val ∧ (rich.claim 3).holders.get .a = true ∧
      (∀ k, k ≠ .a → (rich.claim 3).holders.get k = false) ∧ settingsOf 1 0 2 = some ⟨true, false, none⟩ ∧
      ∀ output code payload, (HoldsRequest (steering output code payload) .a code 7 payload ∧ Open (steering output code payload) .a) ∧
        (steering output code payload).claims = rich.claims ∧ ((steering output code payload).line 3).output = output :=
  ⟨by decide, by decide, forall_hosts (by decide) (by decide) (by decide) (by decide), by decide,
    fun _ _ _ => ⟨⟨holds_asking .., rfl⟩, rfl, rfl⟩⟩

theorem witness_FiringGroupsCombineByPolicy :
    (∀ policy ∈ [Policy.setWins, .clearWins, .refuse],
        (⟨.shared, ⟨true, true, false, false⟩, policy, []⟩ : ClaimRec).state = .shared) ∧
      [LineAction.set, .clear, .pulse 3].Perm [.pulse 3, .set, .clear] ∧
      (∀ k ∈ [LineAction.set, .clear, .pulse 65535], k ≠ .toggle) ∧ (rich.claim 0).state = .exclusive ∧
      (rich.claim 11).state = .free := by decide

/-- R66 and R68: a group of PULSE 5, CLEAR, PULSE 3 and 2 counts 3; a group without a PULSE, and one whose PULSE wins and loses. -/
theorem witness_FiringGroupsSetThePulse :
    (∀ w, [LineAction.pulse 5, .clear].getLast? ≠ some (.pulse w)) ∧
      (OutputRec.cleared.applyGroup (sharedBy .refuse) [.pulse 5, .clear, .pulse 3, .pulse 2]).pulse = some 3 ∧
      (∀ w, LineAction.pulse w ∉ [LineAction.set]) ∧
      (∀ r ∈ [(Policy.setWins, true), (.clearWins, false)],
        (OutputRec.cleared.applyGroup (sharedBy r.1) [.pulse 65535, .clear]).level = r.2) ∧
      LineAction.pulse 65535 ∈ [LineAction.pulse 65535, .clear] := by
  refine ⟨by simp, by decide, by simp, by decide, by decide⟩

/-! ## Witnesses: sense channels, reflexes and the invariants -/

/-- B subscribes to S0 beside A; A alone subscribes to S1, whose gate has closed. -/
theorem witness_SenseSetupNeedsNoOtherSubscriber :
    ((HoldsRequest (asked 56 [0, 0, 0, 255, 1]) .a 56 7 [0, 0, 0, 255, 1] ∧ Open (asked 56 [0, 0, 0, 255, 1]) .a) ∧
        ∃ k, k ≠ .a ∧ ((asked 56 [0, 0, 0, 255, 1]).channel 0).subscribers.get k = true) ∧
      ((HoldsRequest (asked 56 [1, 2, 2, 0, 0]) .a 56 7 [1, 2, 2, 0, 0] ∧ Open (asked 56 [1, 2, 2, 0, 0]) .a) ∧
        (1 : Byte).toNat = (1 : ChannelId).val ∧ edgeSelectionOf 2 = some .both ∧ filterOf 2 = some .refclk ∧
        boolOf 0 = some false ∧ ∀ k, k ≠ .a → ((asked 56 [1, 2, 2, 0, 0]).channel 1).subscribers.get k = false) ∧
      ((asked 56 [1, 2, 2, 0, 0]).channel 1).state = .gated :=
  ⟨⟨asked_held .., .b, by decide⟩,
    ⟨asked_held .., by decide, by decide, by decide, by decide,
      forall_hosts (by decide) (by decide) (by decide) (by decide)⟩, by decide⟩

theorem witness_SubscribersJoinAndLeave :
    ScheduleInRoom rich ∧ (7 : Byte).toNat = (7 : ChannelId).val ∧
      (∀ c : Byte, (HoldsRequest (asked 57 [c]) .a 57 7 [c] ∧ Open (asked 57 [c]) .a) ∧
        HoldsRequest (asked 58 [c]) .a 58 7 [c] ∧ Open (asked 58 [c]) .a) ∧
      (rich.channel 0).subscribers.get .a = true ∧ (rich.channel 7).subscribers.get .a = false ∧
      (∃ k, k ≠ .a ∧ (rich.channel 0).subscribers.get k = true) ∧
      ∀ k, k ≠ .a → (rich.channel 1).subscribers.get k = false :=
  ⟨rich_in_room, by decide, fun _ => ⟨asked_held .., asked_held ..⟩, by decide, by decide, ⟨.b, by decide⟩,
    forall_hosts (by decide) (by decide) (by decide) (by decide)⟩

theorem witness_SenseRearmReopensTheChannel :
    (HoldsRequest (asking rich .c 59 7 [0]) .c 59 7 [0] ∧ ((asking rich .c 59 7 [0]).session .c).isOpen = false) ∧
      ((HoldsRequest (asked 59 [8]) .a 59 7 [8] ∧ Open (asked 59 [8]) .a) ∧ 8 ≤ (8 : Byte).toNat) ∧
      ((HoldsRequest (asked 59 [7]) .a 59 7 [7] ∧ Open (asked 59 [7]) .a) ∧
        ((asked 59 [7]).channel 7).subscribers.get .a = false) ∧
      (HoldsRequest (asked 59 [1]) .a 59 7 [1] ∧ Open (asked 59 [1]) .a) ∧
        ((asked 59 [1]).channel 1).subscribers.get .a = true ∧ ((asked 59 [1]).channel 1).state ≠ .idle :=
  ⟨⟨holds_asking .., by decide⟩, ⟨asked_held .., by decide⟩, ⟨asked_held .., by decide⟩, asked_held .., by decide⟩

/-- S0 counts every third rising edge: one counted, and two counted. -/
def counting (counter : Nat) : State := rich.setChannel 0 { rich.channel 0 with counter }

theorem witness_SenseEdgeIsCountedOrCaptured :
    (∃ s : State, (s.channel 7).filter ≠ .off) ∧ ((rich.channel 7).filter = .off ∧ (rich.channel 7).settled = false) ∧
      ((rich.channel 7).settled ≠ true ∧ (rich.channel 7).state ≠ .opened) ∧
      ((counting 1).channel 0).edge = (if false then .falling else .rising) ∧
      (∀ n ∈ [1, 2], ((counting n).channel 0).filter = .off ∧ ((counting n).channel 0).settled ≠ true ∧
        ((counting n).channel 0).state = .opened ∧ (counting n).tb.mode = .running ∧
        ((counting n).channel 0).edge = .rising ∧ ((counting n).channel 0).counter = n ∧
        ((counting n).channel 0).prescale = 2) ∧
      ∃ s : State, (s.channel 0).counter = (s.channel 0).prescale ∧ s.reflex 0 = none :=
  ⟨⟨rich.setChannel 7 { rich.channel 7 with filter := .tick }, by decide⟩, by decide, by decide, by decide, by decide,
    (counting 2).setReflex 0 none, by decide⟩

/-- S0 about to capture, with a reflex of host A that sets a line after a delay. -/
def reflexing (line : LineId) (delay : Nat) (make : State → State) : State :=
  (make (counting 2)).setReflex 0 (some { reflex0 with deed := .onLine .set line, delay })

/-- The reflex's entry lies beyond the horizon (frame 4096 ahead, and 4095 is within it), meets B's on D1, finds 96 entries, finds 32
of A's, and joins. -/
theorem witness_SenseEdgeWithAReflex :
    (∀ line : LineId, line = 0 ∨ line = 1 → (rich.claim line).holders.get .a = true) ∧
      (∀ delay make, TimebaseInRange ((reflexing 0 delay make).setTb rich.tb)) ∧
      4095 < ((reflexing 0 4095900 id).reflexOffer 0 { reflex0 with delay := 4095900 }).ahead ∧
      ((reflexing 0 4095899 id).reflexOffer 0 { reflex0 with delay := 4095899 }).ahead = 4095 ∧
      (∃ e ∈ (reflexing 1 1400 id).entries, e.deed.line = some 1 ∧
        e.due =
          ⟨(reflexing 1 1400 id).tb.now.frame +
              BitVec.ofNat 16 ((reflexing 1 1400 id).reflexOffer 0 { reflex0 with deed := .onLine .set 1, delay := 1400 }).ahead,
            ((reflexing 1 1400 id).reflexOffer 0 { reflex0 with deed := .onLine .set 1, delay := 1400 }).phase⟩) ∧
      ((reflexing 1 1400 id).claim 1).policy = .refuse ∧
      96 ≤ (reflexing 0 50 (crowded 31 65)).entries.length ∧
      ((reflexing 0 50 (crowded 32 0)).entries.length < 96 ∧ 32 ≤ (reflexing 0 50 (crowded 32 0)).ownCount .a) ∧
      (reflexing 0 50 (crowded 31 64)).entries.length < 96 ∧ (reflexing 0 50 (crowded 31 64)).ownCount .a < 32 :=
  ⟨by decide, fun _ _ => rich_timebase.1, by decide, by decide, ⟨entry2, by decide⟩, by decide, by decide, by decide, by decide,
    by decide⟩

/-- A REFLEX_SET of a SET, or a TOGGLE, of line `target` on S0 or another channel, with the longest delay. -/
def reflexBytes (channel target action : Byte) : List Byte := [channel, target, action, 0, 0, 255, 255, 255, 1, 1, 15]

theorem witness_ReflexIsSetReplacedAndCleared :
    (∀ channel target action, HoldsRequest (asked 64 (reflexBytes channel target action)) .a 64 7 (reflexBytes channel target action) ∧
        Open (asked 64 (reflexBytes channel target action)) .a) ∧
      reflexDeedOf 0 3 (number2 0 0) = some (.onLine .set 3) ∧ reflexDeedOf 2 1 (number2 0 0) = some (.onLine .toggle 1) ∧
      latePolicyOf 1 = some .drop ∧ notifyOf false 1 = some true ∧ tagOf 15 = some 15 ∧ number3 255 255 255 ≠ 0 ∧
      (rich.channel 7).subscribers.get .a = false ∧
      ((rich.channel 0).subscribers.get .a = true ∧ (rich.claim 11).holders.get .a = false) ∧
      ((rich.claim 1).holders.get .a = true ∧ (rich.claim 1).state = .shared) ∧
      ((rich.claim 3).holders.get .a = true ∧ (rich.claim 3).state ≠ .shared ∧ ∀ r ∈ rich.reflex 0, r.owner = .a) ∧
      (∃ s : State, (s.channel 0).subscribers.get .a = true ∧ ∃ r ∈ s.reflex 0, r.owner ≠ .a) ∧
      (∀ c : Byte, HoldsRequest (asked 65 [c]) .a 65 7 [c] ∧ Open (asked 65 [c]) .a) ∧ rich.reflex 7 = none :=
  ⟨fun _ _ _ => asked_held .., by decide, by decide, by decide, by decide, by decide, by decide, by decide, by decide, by decide,
    by decide, ⟨rich.setReflex 0 (some { reflex0 with owner := .b }), by decide, { reflex0 with owner := .b }, by decide⟩,
    fun _ => asked_held .., by decide⟩

/-- A delay that stays in the current frame, and one that reaches into the frame after the next (section 6.3). -/
theorem witness_ReflexDueTimeCountsTheDelay :
    TimebaseInRange rich ∧ (rich.reflexOffer 0 { reflex0 with delay := 899 }).ahead = 0 ∧
      (rich.reflexOffer 0 { reflex0 with delay := 1900 }).ahead = 1 + 1 := ⟨rich_timebase.1, by decide, by decide⟩

theorem rich_steps : ∃ t, step rich = .next t := ⟨_, rfl⟩

theorem witness_StepKeepsAttentionSettled : AttentionSettled rich ∧ ∃ t, step rich = .next t := ⟨rich_attention, rich_steps⟩

theorem witness_StepKeepsQueuesAndCountsInRange :
    ((QueuesInRoom rich ∧ CountsSaturate rich ∧ ChannelCountsInRange rich ∧ PortsConsistent rich) ∧ ∃ t, step rich = .next t) ∧
      ∃ s : State, (∃ t, step s = .next t) ∧ ResetIsHeld s ∧ s.resetN = false := by
  refine ⟨⟨rich_counts, rich_steps⟩, after (.deviceReset ⟨false, ⟨true, false, false, false⟩⟩ 255) rich, ⟨_, rfl⟩, fun _ => ?_, rfl⟩
  exact ⟨rfl, rfl, by decide, by decide, forall_hosts (by decide) (by decide) (by decide) (by decide)⟩

theorem witness_StepKeepsTheTimebaseSound :
    (TimebaseInRange rich ∧ MissesBelowLoss rich ∧ PlansAreHeld rich ∧ RunsOnReference rich) ∧ ∃ t, step rich = .next t :=
  ⟨rich_timebase, rich_steps⟩

theorem witness_StepKeepsTheScheduleDueLater :
    TimebaseInRange rich ∧ ScheduleInRoom rich ∧ (HandlesCurrent rich ∧ RecurrencesInRange rich ∧ ScheduleDueLater rich) ∧
      ∃ t, step rich = .next t := ⟨rich_timebase.1, rich_in_room, rich_schedule, rich_steps⟩

theorem witness_StepKeepsTheHoldingsConsistent :
    ScheduleInRoom rich ∧ PlansAreHeld rich ∧ WaitListsConsistent rich ∧
      (SessionsConsistent rich ∧ ClaimsConsistent rich ∧ FreeLinesCleared rich ∧ ChannelsConsistent rich ∧ ReflexesOwned rich ∧
        EntriesOwned rich ∧ NoCollisions rich ∧ ClosedHoldsNothing rich) ∧ ∃ t, step rich = .next t :=
  ⟨rich_in_room, rich_timebase.2.2.1, rich_wait_lists, rich_holdings, rich_steps⟩

end Sys2Proof.Tests
end

section
/-! What an arriving notice makes of its host's record (R137 to R140), and when the settled attention output is asserted (R146). -/

namespace Sys2Proof.Machine

open Sys2Proof.Safety

/-! ## The attention output -/

theorem Conditions.any_eq_false_iff (c : Conditions) : c.any = false ↔ c = ⟨false, false, false⟩ := by
  obtain ⟨noticeLoss, tbAlert, frameError⟩ := c
  simp [Conditions.any, and_assoc]

theorem Conditions.any_eq_true_iff (c : Conditions) : c.any = true ↔ c ≠ ⟨false, false, false⟩ := by
  rw [ne_eq, ← Conditions.any_eq_false_iff, Bool.not_eq_false]

/-- R146 for an open session. -/
theorem NoticeRec.wantsAttention_open_iff (r : NoticeRec) :
    r.wantsAttention true = true ↔
      (∃ x ∈ r.urgent ++ r.routine, KindSet.has r.attentionMask x.body.kind = true) ∨ r.conditions ≠ ⟨false, false, false⟩ := by
  rw [NoticeRec.wantsAttention, NoticeRec.held, Bool.true_and, Bool.or_eq_true, List.any_eq_true, Conditions.any_eq_true_iff]

theorem State.noticeRec_putNotices_same (s : State) (h : HostId) (r : NoticeRec) :
    (s.putNotices h r).noticeRec h = { r with attention := r.wantsAttention (s.session h).isOpen } := by
  rw [State.noticeRec, s.putNotices_notices, Quad.get_set_same]

/-- The addressed host's record, its session open: the arrival's, with its attention output settled. -/
theorem State.noticeRec_notifyAt_open (s : State) (h : HostId) (stamp : Time) (body : NoticeBody) (ho : Open s h) :
    (s.notifyAt h stamp body).noticeRec h =
      { (s.noticeRec h).arrive stamp body with attention := ((s.noticeRec h).arrive stamp body).wantsAttention true } := by
  rw [s.notifyAt_open h stamp body ho, s.noticeRec_putNotices_same, ho]

/-! ## The place of a numbered notice (R139, R140) -/

/-- Joining changes the list of the notice's class and nothing else. -/
theorem NoticeRec.join_eq (r : NoticeRec) (n : Notice) :
    r.join n =
      { r with
        urgent := if n.urgent then r.urgent ++ [n] else r.urgent
        routine := if n.urgent then r.routine else r.routine ++ [n] } := by
  cases hurgent : n.urgent <;> simp [NoticeRec.join, hurgent]

/-- A notice that finds room joins its class. -/
theorem NoticeRec.place_joins {r : NoticeRec} (n : Notice) (hroom : r.held.length < Config.queueCapacity) :
    r.place n = r.join n := if_pos hroom

/-- An urgent notice at a full queue displaces the oldest routine one. -/
theorem NoticeRec.place_displaces {r : NoticeRec} {n oldest : Notice} {rest : List Notice}
    (hfull : ¬ r.held.length < Config.queueCapacity) (hurgent : n.urgent = true) (hroutine : r.routine = oldest :: rest) :
    r.place n = { r with urgent := r.urgent ++ [n], routine := rest }.loseOne := by
  rw [NoticeRec.place, if_neg hfull, if_pos hurgent, hroutine]

/-- Any other notice at a full queue is dropped: a routine one, and an urgent one that finds no routine notice. -/
theorem NoticeRec.place_drops {r : NoticeRec} {n : Notice} (hfull : ¬ r.held.length < Config.queueCapacity)
    (hkept : n.urgent = false ∨ r.routine = []) : r.place n = r.loseOne := by
  rw [NoticeRec.place, if_neg hfull]
  cases hurgent : n.urgent with
  | false => rfl
  | true => rw [if_pos rfl, hkept.resolve_left (by simp [hurgent])]

/-- At a full queue one notice is lost, whichever it is: the class lists apart, the record is that of a loss. -/
theorem NoticeRec.place_loses {r : NoticeRec} (n : Notice) (hfull : ¬ r.held.length < Config.queueCapacity) :
    ∃ urgent routine, r.place n = { r with urgent, routine }.loseOne := by
  by_cases hkept : n.urgent = false ∨ r.routine = []
  · exact ⟨_, _, place_drops hfull hkept⟩
  · obtain ⟨hurgent, hroutine⟩ := not_or.mp hkept
    obtain ⟨oldest, rest, hroutine⟩ := List.exists_cons_of_ne_nil hroutine
    exact ⟨_, _, place_displaces hfull (Bool.eq_true_of_not_eq_false hurgent) hroutine⟩

/-- The maps, and the two conditions that tell of no loss, stand wherever the notice goes. -/
theorem NoticeRec.place_keeps (r : NoticeRec) (n : Notice) :
    (r.place n).urgencyMap = r.urgencyMap ∧ (r.place n).attentionMask = r.attentionMask ∧
      (r.place n).conditions.tbAlert = r.conditions.tbAlert ∧ (r.place n).conditions.frameError = r.conditions.frameError := by
  by_cases hroom : r.held.length < Config.queueCapacity
  · rw [place_joins n hroom, join_eq]
    exact ⟨rfl, rfl, rfl, rfl⟩
  · obtain ⟨urgent, routine, hplace⟩ := place_loses n hroom
    rw [hplace]
    exact ⟨rfl, rfl, rfl, rfl⟩

/-! ## An arrival: a notice takes its number, then its place -/

/-- The record once a notice has taken its number and has yet to find a place (R137). -/
def NoticeRec.numbered (r : NoticeRec) : NoticeRec := { r with nextNumber := r.nextNumber + 1 }

theorem NoticeRec.arrive_eq_place (r : NoticeRec) (stamp : Time) (body : NoticeBody) :
    r.arrive stamp body = r.numbered.place (r.stampOf stamp body) := rfl

/-- Settles O24: the addressed record is the arrival's with its attention settled, and the notice goes one of three ways. -/
theorem noticeArrivalFillsDisplacesOrDrops : Obligations.NoticeArrivalFillsDisplacesOrDrops := by
  intro s h stamp body
  refine ⟨s.notifyAt_closed h stamp body, s.notifyAt_same h stamp body,
    fun k hne => s.notifyAt_noticeRec_ne stamp body hne, fun ho => ?_⟩
  rw [s.noticeRec_notifyAt_open h stamp body ho]
  generalize s.noticeRec h = r
  refine ⟨r.stampOf stamp body, rfl, rfl, rfl, rfl, r.arrive_nextNumber stamp body, ?settled, ?room, ?full⟩
  case settled =>
    rintro _ rfl
    obtain ⟨hurgency, hmask, halert, hframe⟩ := r.numbered.place_keeps (r.stampOf stamp body)
    exact ⟨hurgency, hmask, halert, hframe, (r.arrive stamp body).wantsAttention_open_iff⟩
  case room =>
    intro hroom
    have hroom : r.numbered.held.length < Config.queueCapacity := hroom
    rw [r.arrive_eq_place, NoticeRec.place_joins _ hroom, NoticeRec.join_eq]
    exact ⟨rfl, rfl, rfl, rfl⟩
  case full =>
    intro hlength
    have hfull : ¬ r.numbered.held.length < Config.queueCapacity := hlength.not_lt
    rw [r.arrive_eq_place]
    refine ⟨fun oldest rest hurgent hroutine => ?displaced, fun hkept => ?dropped, ?lost⟩
    case displaced =>
      rw [NoticeRec.place_displaces hfull hurgent hroutine]
      exact ⟨rfl, rfl⟩
    case dropped =>
      rw [NoticeRec.place_drops hfull hkept]
      exact ⟨rfl, rfl⟩
    case lost =>
      obtain ⟨urgent, routine, hplace⟩ := NoticeRec.place_loses (r.stampOf stamp body) hfull
      rw [hplace]
      exact ⟨rfl, rfl⟩

end Sys2Proof.Machine
end

section
/-! The CRC of a frame byte by byte (R183), the two kinds of frame it closes (R182), and the remainder 0 of a closed frame. -/

namespace Sys2Proof.Machine

/-! ## The remainder, bit by bit -/

/-- Steps 3 and 4 of R183, in the words of the rule: the top bit is compared with the data bit. -/
theorem crcBit_eq (r : Byte) (data : Bool) :
    crcBit r data = if r.msb ≠ data then (r <<< 1) ^^^ 7 else r <<< 1 := by
  simp only [crcBit, BitVec.msb_eq_getLsbD_last, bne_iff_ne]

/-- A data bit equal to the top bit only shifts the remainder. -/
theorem crcBit_msb (r : Byte) : crcBit r r.msb = r <<< 1 := by
  rw [crcBit_eq, if_neg (not_not_intro rfl)]

/-- The first bits of a byte, fed into the remainder that equals it, meet its own top bits one by one, so that they only shift
it out. -/
theorem foldl_crcBit_own_bits (r : Byte) (k : Nat) :
    ((List.range k).map r.getMsbD).foldl crcBit r = r <<< k := by
  induction k with
  | zero => exact (BitVec.shiftLeft_zero r).symm
  | succ k ih =>
    calc ((List.range (k + 1)).map r.getMsbD).foldl crcBit r
        = crcBit (r <<< k) (r.getMsbD k) := by
          rw [List.range_succ, List.map_append, List.foldl_append, ih, List.map_singleton, List.foldl_cons, List.foldl_nil]
      _ = crcBit (r <<< k) (r <<< k).msb := by rw [BitVec.msb_shiftLeft]
      _ = r <<< (k + 1) := by rw [crcBit_msb, BitVec.shiftLeft_add]

/-! ## The remainder, byte by byte -/

theorem bitsOf_eq_map_getMsbD (b : Byte) : bitsOf b = (List.range 8).map b.getMsbD := rfl

theorem crc8_nil : crc8 [] = 0 := rfl

/-- One more byte continues from the remainder of those before it. -/
theorem crc8_concat (bs : List Byte) (b : Byte) : crc8 (bs ++ [b]) = (bitsOf b).foldl crcBit (crc8 bs) := by
  rw [crc8, List.flatMap_append, List.foldl_append, List.flatMap_singleton, ← crc8]

/-- Steps 2 to 4 of R183 for one byte. -/
theorem foldl_crcBit_bitsOf (r b : Byte) :
    (bitsOf b).foldl crcBit r =
      (List.finRange 8).foldl
        (fun (r : Byte) i => if r.msb ≠ b.getMsbD i.val then (r <<< 1) ^^^ 7 else r <<< 1) r := by
  rw [bitsOf_eq_map_getMsbD, ← List.map_coe_finRange_eq_range, List.foldl_map, List.foldl_map]
  simp only [crcBit_eq]

/-- A byte fed into the remainder that equals it leaves 0. -/
theorem foldl_crcBit_bitsOf_self (r : Byte) : (bitsOf r).foldl crcBit r = 0 := by
  rw [bitsOf_eq_map_getMsbD, foldl_crcBit_own_bits]
  exact BitVec.shiftLeft_eq_zero le_rfl

/-! ## Frames -/

/-- R183 for a request frame: the CRC covers opcode, tag, length and payload. -/
theorem RequestFrame.sound_iff (f : RequestFrame) :
    f.sound = true ↔ f.crc = crc8 (f.opcode :: f.tag :: byte f.payload.length :: f.payload) := by
  rw [RequestFrame.sound, decide_eq_true_iff, RequestFrame.body]

/-- R183 for a reply frame: the CRC covers status, tag, flags, length and payload. -/
theorem Reply.bytes_eq (r : Reply) :
    r.bytes =
      (r.status.code :: r.tag :: r.flagsByte :: byte r.payload.length :: r.payload) ++
        [crc8 (r.status.code :: r.tag :: r.flagsByte :: byte r.payload.length :: r.payload)] := rfl

/-- A frame with its CRC appended leaves the remainder 0. -/
theorem crc8_closed (bs : List Byte) : crc8 (bs ++ [crc8 bs]) = 0 := by
  rw [crc8_concat, foldl_crcBit_bitsOf_self]

/-- The NOP with tag 1 that R183 writes out. -/
theorem crc8_nop_tagOne : crc8 [0, 1, 0] = 21 := by simp [crc8, bitsOf, crcBit]

/-- The EMPTY frame that R183 writes out. -/
theorem crc8_emptyFrame : crc8 [3, 0, 0, 0] = 58 := by simp [crc8, bitsOf, crcBit]

/-- Settles O7: one more byte shifts its eight bits into the remainder, and the remainder shifted into itself is 0. -/
theorem crcLeavesNoRemainder : Obligations.CrcLeavesNoRemainder := by
  have byteByByte (bs : List Byte) (b : Byte) := (crc8_concat bs b).trans (foldl_crcBit_bitsOf (crc8 bs) b)
  have replyEnds (r : Reply) : ∃ body, r.bytes = body ++ [crc8 body] := ⟨_, r.bytes_eq⟩
  exact ⟨crc8_nil, byteByByte, RequestFrame.sound_iff, replyEnds, crc8_closed, crc8_nop_tagOne, crc8_emptyFrame⟩

end Sys2Proof.Machine
end

section
/-! Which records an operation of the part can change at all: a mask of records for each operation, so that what an operation leaves
alone is read off its mask. The files of this development elaborate in one thread: joined into one text they would otherwise ask for
more threads than the check's limits allow. -/

set_option Elab.async false

namespace Sys2Proof.Machine

/-! ## Masks -/

/-- The records that an operation may change. -/
structure Touched where
  tb : Bool := false
  entries : Bool := false
  uses : Bool := false
  lines : Bool := false
  claims : Bool := false
  channels : Bool := false
  reflexes : Bool := false
  notices : Bool := false
  sessions : Bool := false
  ports : Bool := false
  choices : Bool := false

/-- Every record that one mask admits, the other admits too. -/
def Touched.within (m n : Touched) : Bool :=
  (!m.tb || n.tb) && (!m.entries || n.entries) && (!m.uses || n.uses) && (!m.lines || n.lines) && (!m.claims || n.claims) &&
    (!m.channels || n.channels) && (!m.reflexes || n.reflexes) && (!m.notices || n.notices) && (!m.sessions || n.sessions) &&
    (!m.ports || n.ports) && (!m.choices || n.choices)

/-- Two states agree on every record outside the mask, on the queue and on the level of RESET_N. -/
structure OnlyTouches (m : Touched) (s t : State) : Prop where
  tb : m.tb = false → t.tb = s.tb
  entries : m.entries = false → t.entries = s.entries
  uses : m.uses = false → t.uses = s.uses
  lines : m.lines = false → t.lines = s.lines
  claims : m.claims = false → t.claims = s.claims
  channels : m.channels = false → t.channels = s.channels
  reflexes : m.reflexes = false → t.reflexes = s.reflexes
  notices : m.notices = false → t.notices = s.notices
  sessions : m.sessions = false → t.sessions = s.sessions
  ports : m.ports = false → t.ports = s.ports
  choices : m.choices = false → t.choices = s.choices
  pending : t.pending = s.pending
  resetN : t.resetN = s.resetN

theorem OnlyTouches.refl (m : Touched) (s : State) : OnlyTouches m s s := by constructor <;> intros <;> rfl

theorem OnlyTouches.trans {m : Touched} {s t u : State} (h : OnlyTouches m s t) (k : OnlyTouches m t u) : OnlyTouches m s u where
  tb hm := (k.tb hm).trans (h.tb hm)
  entries hm := (k.entries hm).trans (h.entries hm)
  uses hm := (k.uses hm).trans (h.uses hm)
  lines hm := (k.lines hm).trans (h.lines hm)
  claims hm := (k.claims hm).trans (h.claims hm)
  channels hm := (k.channels hm).trans (h.channels hm)
  reflexes hm := (k.reflexes hm).trans (h.reflexes hm)
  notices hm := (k.notices hm).trans (h.notices hm)
  sessions hm := (k.sessions hm).trans (h.sessions hm)
  ports hm := (k.ports hm).trans (h.ports hm)
  choices hm := (k.choices hm).trans (h.choices hm)
  pending := k.pending.trans h.pending
  resetN := k.resetN.trans h.resetN

/-- A wider mask promises less. -/
theorem OnlyTouches.mono {m n : Touched} {s t : State} (h : OnlyTouches m s t) (hmn : m.within n = true) : OnlyTouches n s t := by
  simp only [Touched.within, Bool.and_eq_true, Bool.or_eq_true, Bool.not_eq_true'] at hmn
  obtain ⟨⟨⟨⟨⟨⟨⟨⟨⟨⟨tb, entries⟩, uses⟩, lines⟩, claims⟩, channels⟩, reflexes⟩, notices⟩, sessions⟩, ports⟩, choices⟩ := hmn
  have narrow {a b : Bool} (hab : a = false ∨ b = true) (hb : b = false) : a = false := hab.resolve_right (by simp [hb])
  exact
    { tb := fun hn => h.tb (narrow tb hn)
      entries := fun hn => h.entries (narrow entries hn)
      uses := fun hn => h.uses (narrow uses hn)
      lines := fun hn => h.lines (narrow lines hn)
      claims := fun hn => h.claims (narrow claims hn)
      channels := fun hn => h.channels (narrow channels hn)
      reflexes := fun hn => h.reflexes (narrow reflexes hn)
      notices := fun hn => h.notices (narrow notices hn)
      sessions := fun hn => h.sessions (narrow sessions hn)
      ports := fun hn => h.ports (narrow ports hn)
      choices := fun hn => h.choices (narrow choices hn)
      pending := h.pending
      resetN := h.resetN }

/-- One operation behind another, each within the mask. -/
theorem OnlyTouches.step {m n k : Touched} {s t u : State} (h : OnlyTouches m s t) (h' : OnlyTouches n t u)
    (hm : m.within k = true := by rfl) (hn : n.within k = true := by rfl) : OnlyTouches k s u :=
  (h.mono hm).trans (h'.mono hn)

/-- A fold of operations within the mask. -/
theorem OnlyTouches.foldl {m : Touched} {α : Type} {take : State → α → State} {xs : List α}
    (htake : ∀ t, ∀ x ∈ xs, OnlyTouches m t (take t x)) (s : State) : OnlyTouches m s (xs.foldl take s) :=
  foldl_holds (OnlyTouches m s) take xs (fun t ht x hx => ht.trans (htake t x hx)) s (.refl m s)

/-- Events in an open order, each within a mask that admits the count of choices. -/
theorem OnlyTouches.takeAll {m : Touched} {α : Type} {take : State → α → State} {xs : List α} (hm : m.choices = true)
    (htake : ∀ t, ∀ x ∈ xs, OnlyTouches m t (take t x)) (s : State) : OnlyTouches m s (s.takeAll xs take) := by
  refine State.takeAll_holds (OnlyTouches m s) take xs (fun t n ht => ht.trans ?_) (fun t ht x hx => ht.trans (htake t x hx)) s
    (.refl m s)
  constructor <;> intros <;> first | rfl | simp_all

/-- From the relations of Laws/. -/
theorem SameButNotices.touches {s t : State} (h : SameButNotices s t) : OnlyTouches { notices := true } s t := by
  constructor <;> intros <;> first | contradiction | rw [h]

theorem SameButEntries.touches {s t : State} (h : SameButEntries s t) :
    OnlyTouches { entries := true, uses := true, notices := true } s t := by
  constructor <;> intros <;> first | contradiction | rw [h]

theorem SameButFiring.touches {s t : State} (h : SameButFiring s t) :
    OnlyTouches { entries := true, uses := true, notices := true, channels := true } s t := by
  constructor <;> intros <;> first | contradiction | rw [h]

theorem SameButReflexes.touches {s t : State} (h : SameButReflexes s t) :
    OnlyTouches { reflexes := true, notices := true } s t := by
  constructor <;> intros <;> first | contradiction | rw [h]

/-! ## One record replaced -/

theorem State.setTb_touches (s : State) (t : Timebase) : OnlyTouches { tb := true } s (s.setTb t) := by
  constructor <;> intros <;> first | contradiction | rfl
theorem State.setEntries_touches (s : State) (es : List Entry) : OnlyTouches { entries := true } s (s.setEntries es) := by
  constructor <;> intros <;> first | contradiction | rfl
theorem State.setLine_touches (s : State) (l : LineId) (r : OutputRec) : OnlyTouches { lines := true } s (s.setLine l r) := by
  constructor <;> intros <;> first | contradiction | rfl
theorem State.mapLines_touches (s : State) (f : LineId → OutputRec → OutputRec) :
    OnlyTouches { lines := true } s (s.mapLines f) := by
  constructor <;> intros <;> first | contradiction | rfl
theorem State.setClaim_touches (s : State) (l : LineId) (r : ClaimRec) : OnlyTouches { claims := true } s (s.setClaim l r) := by
  constructor <;> intros <;> first | contradiction | rfl
theorem State.setChannel_touches (s : State) (c : ChannelId) (r : ChannelRec) :
    OnlyTouches { channels := true } s (s.setChannel c r) := by
  constructor <;> intros <;> first | contradiction | rfl
theorem State.mapChannels_touches (s : State) (f : ChannelId → ChannelRec → ChannelRec) :
    OnlyTouches { channels := true } s (s.mapChannels f) := by
  constructor <;> intros <;> first | contradiction | rfl
theorem State.setReflex_touches (s : State) (c : ChannelId) (r : Option Reflex) :
    OnlyTouches { reflexes := true } s (s.setReflex c r) := by
  constructor <;> intros <;> first | contradiction | rfl
theorem State.setNotice_touches (s : State) (h : HostId) (r : NoticeRec) :
    OnlyTouches { notices := true } s (s.setNotice h r) := by
  constructor <;> intros <;> first | contradiction | rfl
theorem State.setSession_touches (s : State) (h : HostId) (r : SessionRec) :
    OnlyTouches { sessions := true } s (s.setSession h r) := by
  constructor <;> intros <;> first | contradiction | rfl
theorem State.setPort_touches (s : State) (p : HostId) (r : PortRec) : OnlyTouches { ports := true } s (s.setPort p r) := by
  constructor <;> intros <;> first | contradiction | rfl
theorem State.setChoices_touches (s : State) (n : Nat) : OnlyTouches { choices := true } s (s.setChoices n) := by
  constructor <;> intros <;> first | contradiction | rfl

/-! ## Notices -/

theorem State.putNotices_touches (s : State) (h : HostId) (r : NoticeRec) :
    OnlyTouches { notices := true } s (s.putNotices h r) := (s.putNotices_same h r).touches
theorem State.notify_touches (s : State) (h : HostId) (body : NoticeBody) :
    OnlyTouches { notices := true } s (s.notify h body) := (s.notify_same h body).touches
theorem State.notifyEach_touches (s : State) (hs : List HostId) (stamp : Time) (body : NoticeBody) :
    OnlyTouches { notices := true } s (s.notifyEach hs stamp body) := (s.notifyEach_same hs stamp body).touches
theorem State.tellTimebase_touches (s : State) (stamp : Time) (body : NoticeBody) (extra : Option HostId) :
    OnlyTouches { notices := true } s (s.tellTimebase stamp body extra) := s.notifyEach_touches _ _ _
theorem State.tellMode_touches (s : State) (cause : TbCause) (extra : Option HostId) :
    OnlyTouches { notices := true } s (s.tellMode cause extra) := s.tellTimebase_touches _ _ _
theorem State.alertAll_touches (s : State) : OnlyTouches { notices := true } s s.alertAll := s.alertAll_same.touches
theorem State.flagFrameError_touches (s : State) (h : HostId) : OnlyTouches { notices := true } s (s.flagFrameError h) :=
  (s.flagFrameError_same h).touches
theorem State.tellGranted_touches (s : State) (l : LineId) (places : List Place) (mode : ClaimMode) (policy : Policy) :
    OnlyTouches { notices := true } s (s.tellGranted l places mode policy) := s.notifyEach_touches _ _ _

/-! ## Ports -/

theorem State.placeReply_touches (s : State) (p : HostId) (tag : Byte) (st : Status) (bs : List Byte) :
    OnlyTouches { ports := true } s (s.placeReply p tag st bs) := s.setPort_touches _ _
theorem State.endTransaction_touches (s : State) (p : HostId) : OnlyTouches { ports := true } s (s.endTransaction p) :=
  s.setPort_touches _ _
theorem State.countFrameError_touches (s : State) (p : HostId) : OnlyTouches { ports := true } s (s.countFrameError p) :=
  s.setPort_touches _ _
theorem State.arrived_touches (s : State) (p : HostId) : OnlyTouches { ports := true, sessions := true } s (Safety.arrived s p) :=
  (s.setPort_touches p _).step (State.setSession_touches _ p _)
theorem State.answerBadCrc_touches (s : State) (p : HostId) (tag : Byte) :
    OnlyTouches { ports := true, notices := true } s (s.answerBadCrc p tag) :=
  ((s.countFrameError_touches p).step (State.flagFrameError_touches _ p) (k := { ports := true, notices := true })).step
    (State.placeReply_touches _ p tag _ _)

/-! ## The schedule -/

theorem State.leave_touches (s : State) (e : Entry) : OnlyTouches { entries := true, uses := true } s (s.leave e) := by
  constructor <;> intros <;> first | contradiction | rfl
theorem State.removeEntries_touches (s : State) (goes : Entry → Bool) (news : Handle → Option NoticeBody) :
    OnlyTouches { entries := true, uses := true, notices := true } s (s.removeEntries goes news) :=
  (s.removeEntries_same goes news).touches
theorem State.evict_touches (s : State) (goes : Entry → Bool) (reason : EvictReason) :
    OnlyTouches { entries := true, uses := true, notices := true } s (s.evict goes reason) := (s.evict_same goes reason).touches

/-- A removal without notices leaves the notices alone. -/
theorem State.removeQuietly_touches (s : State) (goes : Entry → Bool) :
    OnlyTouches { entries := true, uses := true } s (s.removeQuietly goes) :=
  .foldl (take := State.removeOne fun _ => none) (fun t e _ => t.leave_touches e) s

theorem State.conclude_touches (s : State) (late : Bool) (e : Entry) :
    OnlyTouches { entries := true, uses := true, notices := true, channels := true } s (s.conclude late e) :=
  (s.conclude_same late e).touches

theorem State.expire_touches (s : State) (e : Entry) :
    OnlyTouches { entries := true, uses := true, notices := true } s (s.expire e) :=
  (s.leave_touches e).step (State.notify_touches _ _ _)

theorem State.applyGroups_touches (s : State) (fires : List Entry) : OnlyTouches { lines := true } s (s.applyGroups fires) :=
  s.mapLines_touches _

theorem State.fireDue_touches (s : State) :
    OnlyTouches { entries := true, uses := true, notices := true, channels := true, lines := true } s s.fireDue :=
  (s.applyGroups_touches _).step (OnlyTouches.foldl (fun t e _ => t.conclude_touches false e) _)

/-- One entry of the ended frame, by its late policy (R20). -/
def State.overtakeOne (s : State) (e : Entry) : State :=
  match e.late with
  | .fireLate => s.conclude true e
  | .drop => s.expire e

theorem State.overtake_eq (s : State) :
    s.overtake =
      (s.entries.filter fun e => decide (e.due.frame = s.now.frame)).foldl State.overtakeOne
        (s.applyGroups
          ((s.entries.filter fun e => decide (e.due.frame = s.now.frame)).filter fun e => decide (e.late = .fireLate))) := rfl

theorem State.overtakeOne_touches (s : State) (e : Entry) :
    OnlyTouches { entries := true, uses := true, notices := true, channels := true } s (s.overtakeOne e) := by
  unfold State.overtakeOne
  split
  · exact s.conclude_touches true e
  · exact (s.expire_touches e).mono rfl

theorem State.overtake_touches (s : State) :
    OnlyTouches { entries := true, uses := true, notices := true, channels := true, lines := true } s s.overtake := by
  rw [s.overtake_eq]
  exact (s.applyGroups_touches _).step (OnlyTouches.foldl (fun t e _ => t.overtakeOne_touches e) _)

theorem State.restart_touches (s : State) :
    OnlyTouches { tb := true, entries := true, uses := true, notices := true } s s.restart :=
  ((s.evict_touches _ _).step (State.setEntries_touches _ _) (k := { entries := true, uses := true, notices := true })).step
    (State.setTb_touches _ _)

/-- An accepted offer changes the list and nothing else (R14). -/
theorem State.insert_joined_touches {s t : State} {o : Offer} {handle : Handle} (h : s.insert o = .joined t handle) :
    OnlyTouches { entries := true } s t := by
  unfold State.insert at h
  split at h
  · cases h
  · split at h
    · cases h
    · cases h
      exact s.setEntries_touches _

/-! ## Reflexes and channels -/

theorem State.removeReflexes_touches (s : State) (goes : ChannelId → Reflex → Bool) (reason : Option RemovalReason) :
    OnlyTouches { reflexes := true, notices := true } s (s.removeReflexes goes reason) :=
  (s.removeReflexes_same goes reason).touches

theorem State.removeReflex_none_touches (s : State) (goes : ChannelId → Reflex → Bool) (c : ChannelId) :
    OnlyTouches { reflexes := true } s (s.removeReflex goes none c) := by
  unfold State.removeReflex
  split
  · exact .refl _ s
  · split
    · exact s.setReflex_touches c none
    · exact .refl _ s

/-- A silent removal tells nobody (R131). -/
theorem State.removeReflexes_none_touches (s : State) (goes : ChannelId → Reflex → Bool) :
    OnlyTouches { reflexes := true } s (s.removeReflexes goes none) :=
  .foldl (fun t c _ => t.removeReflex_none_touches goes c) s

theorem State.triggerReflex_touches (s : State) (c : ChannelId) :
    OnlyTouches { entries := true, notices := true } s (s.triggerReflex c) := by
  unfold State.triggerReflex
  split
  · exact .refl _ s
  · split
    · exact (s.insert_joined_touches ‹_›).mono rfl
    · exact (s.notify_touches _ _).mono rfl

theorem State.closeGate_touches (s : State) (c : ChannelId) : OnlyTouches { channels := true } s (s.closeGate c) := by
  unfold State.closeGate
  split
  · exact s.setChannel_touches _ _
  · exact .refl _ s

theorem State.captureOn_touches (s : State) (c : ChannelId) (edge : EdgeDir) :
    OnlyTouches { entries := true, notices := true, channels := true } s (s.captureOn c edge) :=
  (((s.setChannel_touches c _).step (State.notifyEach_touches _ _ _ _) (k := { notices := true, channels := true })).step
    (State.triggerReflex_touches _ c) (k := { entries := true, notices := true, channels := true })).step
    (State.closeGate_touches _ c)

theorem State.takeEdge_touches (s : State) (c : ChannelId) (level : Level) :
    OnlyTouches { entries := true, notices := true, channels := true } s (s.takeEdge c level) := by
  unfold State.takeEdge
  split
  · split
    · exact s.captureOn_touches c _
    · exact (s.setChannel_touches c _).mono rfl
  · exact .refl _ s

theorem State.settleLevel_touches (s : State) (c : ChannelId) :
    OnlyTouches { entries := true, notices := true, channels := true } s (s.settleLevel c) :=
  (s.setChannel_touches c _).step (State.takeEdge_touches _ c _)

theorem State.driveSense_touches (s : State) (c : ChannelId) (level : Level) :
    OnlyTouches { entries := true, notices := true, channels := true } s (s.driveSense c level) := by
  unfold State.driveSense
  dsimp only
  split
  · exact (s.setChannel_touches c _).step (State.settleLevel_touches _ c)
  · exact (s.setChannel_touches c _).mono rfl

theorem State.rearm_touches (s : State) (c : ChannelId) : OnlyTouches { channels := true } s (s.rearm c) := by
  unfold State.rearm
  split
  · exact .refl _ s
  · exact s.setChannel_touches c _

theorem State.rearmBy_touches (s : State) (d : Deed) : OnlyTouches { channels := true } s (s.rearmBy d) := by
  unfold State.rearmBy
  split
  · exact s.rearm_touches _
  · exact .refl _ s

theorem State.sampleAll_touches (s : State) (f : Filter) : OnlyTouches { channels := true } s (s.sampleAll f) :=
  s.mapChannels_touches _

theorem State.endSubscriptions_touches (s : State) (h : HostId) : OnlyTouches { channels := true } s (s.endSubscriptions h) :=
  s.mapChannels_touches _

/-! ## Lines and claims -/

theorem State.claimedLines_touches (s : State) (f : OutputRec → OutputRec) : OnlyTouches { lines := true } s (s.claimedLines f) :=
  s.mapLines_touches _
theorem State.grantOutput_touches (s : State) (l : LineId) (settings : LineSettings) :
    OnlyTouches { lines := true } s (s.grantOutput l settings) := s.setLine_touches _ _
theorem State.freeOutput_touches (s : State) (l : LineId) : OnlyTouches { lines := true } s (s.freeOutput l) :=
  s.setLine_touches _ _

theorem State.handOn_touches (s : State) (l : LineId) :
    OnlyTouches { claims := true, lines := true, notices := true } s (s.handOn l) := by
  unfold State.handOn
  split
  · exact (s.setClaim_touches l _).step (State.freeOutput_touches _ l)
  · split
    all_goals
      exact ((s.setClaim_touches l _).step (State.grantOutput_touches _ l _) (k := { claims := true, lines := true })).step
        (State.tellGranted_touches _ l _ _ _)

theorem State.admitRun_touches (s : State) (l : LineId) : OnlyTouches { claims := true, notices := true } s (s.admitRun l) := by
  unfold State.admitRun
  dsimp only
  split
  · exact (s.setClaim_touches l _).step (State.tellGranted_touches _ l _ _ _)
  · exact .refl _ s

theorem State.withdrawPlace_touches (s : State) (h : HostId) (l : LineId) :
    OnlyTouches { claims := true, notices := true } s (s.withdrawPlace h l) :=
  (s.setClaim_touches l _).step (State.admitRun_touches _ l)

theorem State.leaveHolders_touches (s : State) (h : HostId) (l : LineId) :
    OnlyTouches { claims := true, lines := true, notices := true } s (s.leaveHolders h l) := by
  unfold State.leaveHolders
  dsimp only
  split
  · exact (s.setClaim_touches l _).step (State.handOn_touches _ l)
  · exact (s.setClaim_touches l _).mono rfl

theorem State.endClaim_touches (s : State) (h : HostId) (l : LineId) :
    OnlyTouches { claims := true, lines := true, notices := true } s (s.endClaim h l) := by
  unfold State.endClaim
  split
  · exact s.leaveHolders_touches h l
  · split
    · exact (s.withdrawPlace_touches h l).mono rfl
    · exact .refl _ s

theorem State.releaseHolding_touches (s : State) (h : HostId) (l : LineId) :
    OnlyTouches { entries := true, uses := true, reflexes := true, claims := true, lines := true, notices := true } s
      (s.releaseHolding h l) := by
  have cleared (n : HostSet) :=
    ((s.setClaim_touches l { s.claim l with holders := n }).step (State.removeEntries_touches _ (actsFor h l) fun x => some (.cancelled x .released))
      (k := { entries := true, uses := true, claims := true, notices := true })).step
      (State.removeReflexes_touches _ (fun _ r => r.targets h l) (some .released))
      (k := { entries := true, uses := true, reflexes := true, claims := true, notices := true })
  unfold State.releaseHolding
  dsimp only
  split
  · exact (cleared _).step (State.handOn_touches _ l)
  · exact (cleared _).mono rfl

/-! ## The timebase -/

theorem State.dropPlans_touches (s : State) : OnlyTouches { tb := true } s s.dropPlans := s.setTb_touches _

theorem State.discardOnRelease_touches (s : State) (h : HostId) :
    OnlyTouches { tb := true, entries := true, uses := true, notices := true } s (s.discardOnRelease h) := by
  unfold State.discardOnRelease
  split
  · exact ((s.evict_touches _ _).step (State.dropPlans_touches _)
      (k := { tb := true, entries := true, uses := true, notices := true })).step (State.tellMode_touches _ _ _)
  · exact .refl _ s

theorem State.tellStop_touches (planned s : State) (news : StopNews) :
    OnlyTouches { entries := true, uses := true, notices := true } s (State.tellStop planned s news) := by
  cases news with
  | evictions => exact s.evict_touches _ _
  | stopped => exact (s.tellMode_touches _ _).mono rfl

/-- What TB_STOP NOW tells and evicts once the record has changed. -/
theorem State.takeAll_tellStop_touches (planned s : State) (news : List StopNews) :
    OnlyTouches { entries := true, uses := true, notices := true, choices := true } s
      (s.takeAll news (State.tellStop planned)) :=
  .takeAll rfl (fun t n _ => (State.tellStop_touches planned t n).mono rfl) s

theorem State.afterWrap_tells_touches (s : State) (w : WrapReport) :
    OnlyTouches { entries := true, uses := true, notices := true, channels := true, lines := true } s
      (((((s.tellNewLength w.newLength).tellLost w.lost).frameReturn).fireDue)) := by
  have newLength : OnlyTouches { notices := true } s (s.tellNewLength w.newLength) := by
    unfold State.tellNewLength
    split
    · exact .refl _ s
    · exact s.tellTimebase_touches _ _ _
  have lost (t : State) : OnlyTouches { notices := true } t (t.tellLost w.lost) := by
    unfold State.tellLost
    split
    · exact (t.tellTimebase_touches _ _ _).trans (State.alertAll_touches _)
    · exact .refl _ t
  exact (((newLength.trans (lost _)).step (State.claimedLines_touches _ _) (k := { notices := true, lines := true }))).step
    (State.fireDue_touches _)

theorem State.haltIf_touches (s : State) (cause : Option TbCause) :
    OnlyTouches { tb := true, notices := true } s (s.haltIf cause) := by
  cases cause with
  | none => exact .refl _ s
  | some cause => exact (s.setTb_touches _).step (State.tellMode_touches _ _ _)

theorem State.afterWrap_touches (s : State) (w : WrapReport) :
    OnlyTouches { tb := true, entries := true, uses := true, notices := true, channels := true, lines := true } s
      (s.afterWrap w) :=
  (s.afterWrap_tells_touches w).step (State.haltIf_touches _ _)

theorem State.tickEffects_touches (s : State) (report : Option WrapReport) :
    OnlyTouches { tb := true, entries := true, uses := true, notices := true, channels := true, lines := true } s
      (s.tickEffects report) := by
  cases report with
  | none => exact (s.claimedLines_touches _).step (State.fireDue_touches _)
  | some w => exact (s.claimedLines_touches _).step (State.afterWrap_touches _ w)

/-- What the clock can change: the timebase, the schedule, the notices, the channels and the lines. -/
abbrev Touched.clock : Touched :=
  { tb := true, entries := true, uses := true, notices := true, channels := true, lines := true, choices := true }

theorem State.takeTickEvent_touches (report : Option WrapReport) (s : State) (x : TickEvent) :
    OnlyTouches .clock s (State.takeTickEvent report s x) := by
  cases x with
  | main => exact (s.tickEffects_touches report).mono rfl
  | edge c => exact (s.settleLevel_touches c).mono rfl

theorem State.tick_touches (s : State) : OnlyTouches .clock s s.tick :=
  ((s.setTb_touches _).step (State.sampleAll_touches _ .tick) (k := .clock)).trans
    (.takeAll rfl (fun t x _ => State.takeTickEvent_touches _ t x) _)

theorem State.takeCycleEvent_touches (s : State) (x : TickEvent) : OnlyTouches .clock s (s.takeCycleEvent x) := by
  cases x with
  | main => exact s.tick_touches
  | edge c => exact (s.settleLevel_touches c).mono rfl

theorem State.refclkCycle_touches (s : State) : OnlyTouches .clock s s.refclkCycle :=
  ((s.setTb_touches _).step (State.sampleAll_touches _ .refclk) (k := .clock)).trans
    (.takeAll rfl (fun t x _ => t.takeCycleEvent_touches x) _)

theorem State.refclkCycles_touches (n : Nat) (s : State) : OnlyTouches .clock s (s.refclkCycles n) := by
  induction n generalizing s with
  | zero => exact .refl _ s
  | succ n ih => exact s.refclkCycle_touches.trans (ih _)

theorem State.runTick_touches (s : State) : OnlyTouches .clock s s.runTick := by
  unfold State.runTick
  split
  · exact State.refclkCycles_touches _ s
  · exact .refl _ s

theorem State.alignedWrap_touches (s : State) : OnlyTouches .clock s s.alignedWrap :=
  ((s.overtake_touches.step (State.setTb_touches _ _) (k := .clock))).step (State.afterWrap_touches _ _)

theorem State.takeSyncEdge_touches (s : State) : OnlyTouches .clock s s.takeSyncEdge := by
  unfold State.takeSyncEdge
  split
  · exact (((s.setTb_touches _).step (State.tellTimebase_touches _ _ _ _) (k := .clock))).trans (State.alignedWrap_touches _)
  · exact (s.setTb_touches _).step (State.alignedWrap_touches _)
  · exact (s.setTb_touches _).mono rfl
  · exact (s.tellTimebase_touches _ _ _).step (State.alignedWrap_touches _)

theorem State.syncStart_touches (s : State) : OnlyTouches { tb := true, notices := true } s s.syncStart := by
  unfold State.syncStart
  dsimp only
  split
  · exact (((s.setTb_touches _).step (State.tellTimebase_touches _ _ _ _) (k := { tb := true, notices := true }))).step
      (State.tellMode_touches _ _ _)
  · exact (s.setTb_touches _).step (State.tellMode_touches _ _ _)

theorem State.syncEdge_touches (s : State) : OnlyTouches .clock s s.syncEdge := by
  unfold State.syncEdge
  split
  · exact s.syncStart_touches.mono rfl
  · exact s.takeSyncEdge_touches
  · exact .refl _ s

theorem State.declareAbsent_touches (s : State) :
    OnlyTouches { tb := true, entries := true, uses := true, notices := true, lines := true } s s.declareAbsent := by
  have told (t : Timebase) :=
    ((((s.evict_touches s.discardEvicts .frameLength).step (State.setTb_touches _ t)
      (k := { tb := true, entries := true, uses := true, notices := true })).step (State.alertAll_touches _)
      (k := { tb := true, entries := true, uses := true, notices := true })).step (State.tellMode_touches _ .refLost none)
      (k := { tb := true, entries := true, uses := true, notices := true }))
  unfold State.declareAbsent
  dsimp only
  split
  · exact ((told _).step (State.tellMode_touches _ _ _) (k := { tb := true, entries := true, uses := true, notices := true })).step
      (State.claimedLines_touches _ _)
  · exact (told _).step (State.claimedLines_touches _ _)

theorem State.declarePresent_touches (s : State) : OnlyTouches { tb := true, notices := true } s s.declarePresent :=
  (s.setTb_touches _).step (State.tellMode_touches _ _ _)

theorem State.countMonitor_touches (s : State) : OnlyTouches { tb := true } s s.countMonitor := s.setTb_touches _

theorem State.declare_touches (s : State) :
    OnlyTouches { tb := true, entries := true, uses := true, notices := true, lines := true } s s.declare := by
  unfold State.declare
  split
  · exact s.declareAbsent_touches
  · exact s.declarePresent_touches.mono rfl

theorem State.stopNow_touches (s : State) :
    OnlyTouches { tb := true, entries := true, uses := true, notices := true, choices := true } s s.stopNow := by
  have told (t : Timebase) (news : List StopNews) :=
    (s.setTb_touches t).step (State.takeAll_tellStop_touches s _ news)
      (k := { tb := true, entries := true, uses := true, notices := true, choices := true })
  unfold State.stopNow
  dsimp only
  split
  · exact (told _ _).step (State.tellMode_touches _ _ _)
  · exact told _ _

theorem State.startTimebase_touches (s : State) (f : StartFields) :
    OnlyTouches { tb := true, entries := true, uses := true, notices := true } s (s.startTimebase f) := by
  have restarted : OnlyTouches { tb := true, entries := true, uses := true, notices := true } s
      (if f.restart then s.restart else s) := by
    split
    · exact s.restart_touches
    · exact .refl _ s
  exact (restarted.step (State.setTb_touches _ _) (k := { tb := true, entries := true, uses := true, notices := true })).step
    (State.tellTimebase_touches _ _ _ _)

/-! ## A housekeeping period's counts -/

theorem State.abandon_touches (s : State) (p : HostId) : OnlyTouches { ports := true } s (s.abandon p) := by
  unfold State.abandon
  split
  · dsimp only
    split
    · exact s.setPort_touches p _
    · exact (s.setPort_touches p _).trans (State.countFrameError_touches _ p)
  · exact .refl _ s

theorem State.stallCheck_touches (s : State) (p : HostId) : OnlyTouches { ports := true } s (s.stallCheck p) := by
  unfold State.stallCheck
  split
  · split
    · exact s.abandon_touches p
    · exact s.setPort_touches p _
  · exact .refl _ s

theorem State.stallChecks_touches (s : State) : OnlyTouches { ports := true } s (allHosts.foldl State.stallCheck s) :=
  .foldl (fun t p _ => t.stallCheck_touches p) s

theorem State.selectPort_touches (s : State) (p : HostId) : OnlyTouches { ports := true } s (s.selectPort p) := by
  unfold State.selectPort
  split
  · split
    · exact s.setPort_touches p _
    · exact .refl _ s
  · exact .refl _ s

theorem State.clockPort_touches (s : State) (p : HostId) (edge : ClockEdge) (sdi : Level) :
    OnlyTouches { ports := true } s (s.clockPort p edge sdi) := by
  unfold State.clockPort
  split
  · exact s.setPort_touches p _
  · exact .refl _ s

theorem State.endWithoutFrame_touches (s : State) (p : HostId) : OnlyTouches { ports := true } s (s.endWithoutFrame p) := by
  unfold State.endWithoutFrame
  split
  · exact .refl _ s
  · exact s.setPort_touches p _
  · split
    · exact .refl _ s
    · exact s.endTransaction_touches p
    · exact (s.endTransaction_touches p).trans (State.countFrameError_touches _ p)
    · exact (s.endTransaction_touches p).trans (State.countFrameError_touches _ p)

theorem State.takeUnknown_touches (s : State) (p : HostId) :
    OnlyTouches { ports := true, sessions := true, notices := true } s (s.takeUnknown p) := by
  unfold State.takeUnknown
  split
  · exact .refl _ s
  · split
    · exact .refl _ s
    · split
      · rw [s.arrived_eq p]
        exact (s.arrived_touches p).step (State.placeReply_touches _ p _ _ _)
      · exact (s.endTransaction_touches p).step (State.answerBadCrc_touches _ p _)

theorem State.countTimers_touches (s : State) :
    OnlyTouches { sessions := true } s (allHosts.foldl (fun v h => v.setSession h (v.session h).counted) s) :=
  .foldl (take := fun v h => v.setSession h (v.session h).counted) (fun t h _ => t.setSession_touches h _) s

theorem State.countPeriod_touches (s : State) : OnlyTouches { ports := true, sessions := true, tb := true } s s.countPeriod :=
  (s.stallChecks_touches.step (State.countTimers_touches _) (k := { ports := true, sessions := true })).step
    (State.countMonitor_touches _)

/-! ## The end of a session -/

theorem State.endHold_touches (s : State) (h : HostId) :
    OnlyTouches { tb := true, entries := true, uses := true, notices := true } s (s.endHold h) := by
  unfold State.endHold
  split
  · exact (s.setTb_touches _).step (State.discardOnRelease_touches _ h)
  · exact .refl _ s

/-- What the answers to a session end can change. -/
abbrev Touched.answers : Touched :=
  { tb := true, entries := true, uses := true, notices := true, claims := true, lines := true, choices := true }

theorem State.giveEndAnswer_touches (h : HostId) (s : State) (x : EndAnswer) :
    OnlyTouches .answers s (State.giveEndAnswer h s x) := by
  cases x with
  | timebase => exact (s.endHold_touches h).mono rfl
  | line l => exact (s.endClaim_touches h l).mono rfl

theorem State.endSilently_touches (s : State) (h : HostId) : OnlyTouches .answers s (s.endSilently h) := by
  have hold : OnlyTouches .answers s (if s.endDiscards h then s else s.endHold h) := by
    split
    · exact .refl _ s
    · exact (s.endHold_touches h).mono rfl
  exact hold.trans (.foldl (fun t l _ => (t.endClaim_touches h l).mono rfl) _)

theorem State.endOwn_touches (s : State) (h : HostId) (cause : EndCause) :
    OnlyTouches { sessions := true, notices := true, entries := true, uses := true, reflexes := true, channels := true } s
      (s.endOwn h cause) :=
  ((((s.setSession_touches h _).step (State.setNotice_touches _ h _) (k := { sessions := true, notices := true })).step
    (State.removeQuietly_touches _ _) (k := { sessions := true, notices := true, entries := true, uses := true })).step
    (State.removeReflexes_none_touches _ _)
    (k := { sessions := true, notices := true, entries := true, uses := true, reflexes := true })).step
    (State.endSubscriptions_touches _ h)

/-- A session end leaves the ports alone, beside the queue. -/
theorem State.endSession_touches (s : State) (h : HostId) (cause : EndCause) :
    OnlyTouches { Touched.answers with sessions := true, reflexes := true, channels := true } s (s.endSession h cause) :=
  ((s.endOwn_touches h cause).step (State.endSilently_touches _ h)
    (k := { Touched.answers with sessions := true, reflexes := true, channels := true })).trans
    (.takeAll rfl (fun t x _ => (State.giveEndAnswer_touches h t x).mono rfl) _)

end Sys2Proof.Machine
end

section
/-! What each request and each event can do to the part, said once: a block leaves one of the states of `Served`, and a step one of
those of `Effect`. The invariants are read off these. -/

set_option Elab.async false

namespace Sys2Proof.Machine

open Sys2Proof.Safety

/-! ## Requests -/

/-- The rows of the requests with their blocks (Table 10-3). -/
inductive IsRequest : RequestRow → Block → Prop where
  | nop : IsRequest ⟨0, 0, true⟩ nopBlock
  | opening : IsRequest ⟨1, 2, true⟩ openBlock
  | closing : IsRequest ⟨2, 0, false⟩ closeBlock
  | portReset : IsRequest ⟨3, 0, true⟩ portResetBlock
  | hostStatus : IsRequest ⟨4, 0, true⟩ hostStatusBlock
  | ident : IsRequest ⟨5, 0, true⟩ identBlock
  | readNotices : IsRequest ⟨8, 1, false⟩ readNoticesBlock
  | setNoticeMaps : IsRequest ⟨9, 4, false⟩ setNoticeMapsBlock
  | ackConditions : IsRequest ⟨10, 1, false⟩ ackConditionsBlock
  | tbHold : IsRequest ⟨16, 0, false⟩ tbHoldBlock
  | tbRelease : IsRequest ⟨17, 0, false⟩ tbReleaseBlock
  | tbStart : IsRequest ⟨18, 4, false⟩ tbStartBlock
  | tbStop : IsRequest ⟨19, 1, false⟩ tbStopBlock
  | tbSetFrame : IsRequest ⟨20, 3, false⟩ tbSetFrameBlock
  | tbSetSync : IsRequest ⟨21, 4, false⟩ tbSetSyncBlock
  | tbSetPrescale : IsRequest ⟨22, 1, false⟩ tbSetPrescaleBlock
  | readTime : IsRequest ⟨23, 0, true⟩ readTimeBlock
  | tbStatus : IsRequest ⟨24, 0, true⟩ tbStatusBlock
  | schedule : IsRequest ⟨32, 16, false⟩ scheduleBlock
  | cancel : IsRequest ⟨33, 2, false⟩ cancelBlock
  | cancelGroup : IsRequest ⟨34, 1, false⟩ cancelGroupBlock
  | queryEntry : IsRequest ⟨35, 2, false⟩ queryEntryBlock
  | scheduleStatus : IsRequest ⟨36, 0, false⟩ scheduleStatusBlock
  | claim : IsRequest ⟨40, 7, false⟩ claimBlock
  | release : IsRequest ⟨41, 1, false⟩ releaseBlock
  | lineSetup : IsRequest ⟨48, 4, false⟩ lineSetupBlock
  | outputHold : IsRequest ⟨49, 1, false⟩ outputHoldBlock
  | outputForce : IsRequest ⟨50, 2, false⟩ outputForceBlock
  | outputFollow : IsRequest ⟨51, 1, false⟩ outputFollowBlock
  | lineStatus : IsRequest ⟨52, 1, false⟩ lineStatusBlock
  | senseSetup : IsRequest ⟨56, 5, false⟩ senseSetupBlock
  | subscribe : IsRequest ⟨57, 1, false⟩ subscribeBlock
  | unsubscribe : IsRequest ⟨58, 1, false⟩ unsubscribeBlock
  | senseRearm : IsRequest ⟨59, 1, false⟩ senseRearmBlock
  | senseStatus : IsRequest ⟨60, 1, false⟩ senseStatusBlock
  | reflexSet : IsRequest ⟨64, 11, false⟩ reflexSetBlock
  | reflexClear : IsRequest ⟨65, 1, false⟩ reflexClearBlock

/-- A change of the output record of a line under sole control (R76 to R79). -/
inductive OutputChange (r : OutputRec) : OutputRec → Prop where
  | setUp (settings : LineSettings) : OutputChange r { r with settings }
  | held : OutputChange r { r with output := .held, heldLevel := r.level }
  | forced (v : Level) : OutputChange r { r with heldLevel := v }
  | followed : OutputChange r { r with output := .driven, heldLevel := false }

/-- A change of the timebase record by its holder that tells nobody and evicts nothing. -/
inductive TbSetting (t : Timebase) : Timebase → Prop where
  | stopsAtWrap (hmode : t.mode = .running) : TbSetting t { t with pendingStop := true }
  | sync (m : SyncMode) (window : Nat) (hwindow : window ≤ t.length / 4) :
    TbSetting t { t with syncMode := m, window, lock := .searching, missCount := 0, prevMissed := false }
  | prescale (b : Byte) (hmode : t.mode = .halted ∨ t.mode = .refLost) : TbSetting t { t with prescale := prescaleOf b }

/-- The states that the block of a request of host `h` can leave. -/
inductive Served (h : HostId) (s : State) : State → Prop where
  | stands : Served h s s
  | opened (limit : Nat) (watch : Bool) (hclosed : (s.session h).isOpen = false) :
    Served h s ((s.setSession h ((s.session h).opened limit watch)).setNotice h .reset)
  | closed (ho : Open s h) : Served h s (s.endSession h .close)
  | portCleared (t : State) (ht : t = s ∨ Open s h ∧ t = s.endSession h .portReset) :
    Served h s (t.setPort h { t.port h with frameErrors := 0, slot := none, unread := false })
  | noticesRead (n : Nat) (ho : Open s h) : Served h s (s.putNotices h ((s.noticeRec h).dropN n))
  | mapsSet (urgency mask : KindSet) (ho : Open s h) :
    Served h s (s.putNotices h { s.noticeRec h with urgencyMap := urgency, attentionMask := mask })
  | acknowledged (named : Conditions) (ho : Open s h) : Served h s (s.putNotices h ((s.noticeRec h).acknowledge named))
  | holdTaken (hfree : s.tb.holder = none) (ho : Open s h) : Served h s (s.setTb { s.tb with holder := some h })
  | holdReleased (hh : s.tb.holder = some h) : Served h s ((s.setTb { s.tb with holder := none }).discardOnRelease h)
  | started (f : StartFields) (hlimit : f.runLimit ≤ 65535) (hmode : s.tb.mode = .halted ∨ s.tb.mode = .refLost)
    (href : s.tb.monitor.verdict = .present) : Served h s (s.startTimebase f)
  | stopCancelled (limit : Nat) (hlimit : limit ≤ 65535) (hmode : s.tb.mode = .running) :
    Served h s ((s.setTb { s.tb with pendingStop := false, runLimit := limit }).tellMode .start)
  | stoppedIdle (hmode : s.tb.mode = .awaitingSync ∨ s.tb.mode = .refLost) : Served h s s.stopIdle
  | stoppedNow (hmode : s.tb.mode = .running) : Served h s s.stopNow
  | tbSet (t : Timebase) (ht : TbSetting s.tb t) (hh : s.tb.holder = some h) : Served h s (s.setTb t)
  | lengthStaged (n : Nat) (hn : Config.minLength ≤ n ∧ n ≤ Config.maxLength) (hh : s.tb.holder = some h)
    (hmode : s.tb.mode = .running) : Served h s (s.stageLength n)
  | lengthApplied (n : Nat) (hn : Config.minLength ≤ n ∧ n ≤ Config.maxLength) (hmode : s.tb.mode ≠ .running)
    (hphase : s.tb.now.phase < n) : Served h s (s.applyLength n)
  | scheduled (o : Offer) (t : State) (handle : Handle) (hhost : o.origin = .host) (howner : o.owner = h)
    (hrec : ∀ r ∈ o.recurrence, (1 ≤ r.period ∧ r.period ≤ 255) ∧ r.remaining ≤ 65535) (ho : Open s h)
    (ht : s.insert o = .joined t handle) : Served h s t
  | cancelled (e : Entry) (he : e ∈ s.entries) : Served h s (s.leave e)
  | groupCancelled (tag : Nat) : Served h s (s.removeQuietly (inGroup h tag))
  | claimGranted (l : LineId) (ask : Ask) (settings : LineSettings) (hfree : (s.claim l).state = .free) (ho : Open s h) :
    Served h s (s.grantNow h l ask settings)
  | claimJoined (l : LineId) (hshared : (s.claim l).state = .shared) (hnone : (s.claim l).waiting = []) (ho : Open s h) :
    Served h s (s.setClaim l { s.claim l with holders := (s.claim l).holders.set h true })
  | claimQueued (l : LineId) (ask : Ask) (settings : LineSettings) (hclaimed : (s.claim l).state ≠ .free)
    (hshared : (s.claim l).state = .shared → (s.claim l).waiting = [] → ask.mode = .exclusive)
    (hout : (s.claim l).holders.get h = false) (hnew : (s.claim l).awaitedBy h = false) (ho : Open s h) :
    Served h s (s.setClaim l { s.claim l with waiting := (s.claim l).waiting ++ [⟨h, ask, settings⟩] })
  | released (l : LineId) (hin : (s.claim l).holders.get h = true) : Served h s (s.releaseHolding h l)
  | placeWithdrawn (l : LineId) (hout : (s.claim l).holders.get h = false) (hin : (s.claim l).awaitedBy h = true) :
    Served h s (s.withdrawPlace h l)
  | outputChanged (l : LineId) (r : OutputRec) (hr : OutputChange (s.line l) r) (hin : (s.claim l).holders.get h = true) :
    Served h s (s.setLine l r)
  | channelSetUp (c : ChannelId) (e : EdgeSelection) (f : Filter) (prescale : Nat) (g : Bool) :
    Served h s (s.setChannel c ((s.channel c).setUp e f prescale g))
  | subscribed (c : ChannelId) (ho : Open s h) : Served h s (s.setChannel c ((s.channel c).joined h))
  | unsubscribed (c : ChannelId) (hin : (s.channel c).subscribers.get h = true) :
    Served h s (((s.setChannel c ((s.channel c).without h)).withdrawEntries (rearmsFor h c) .unsubscribed).removeReflexes
      (fun d x => decide (d = c) && decide (x.owner = h)) (some .unsubscribed))
  | rearmed (c : ChannelId) (hin : (s.channel c).subscribers.get h = true) : Served h s (s.rearm c)
  | reflexSet (c : ChannelId) (r : Reflex) (howner : r.owner = h) (hok : s.reflexFails c r = none) (ho : Open s h) :
    Served h s (s.setReflex c (some r))
  | reflexCleared (c : ChannelId) : Served h s (s.setReflex c none)

/-! ## What each block leaves -/

theorem State.accept_state (s : State) (payload : List Byte) : (s.accept payload).state = s := rfl

theorem eq_true_of_not_not {b : Bool} (h : ¬ (!b) = true) : b = true := by simpa using h

theorem number2_le (hi lo : Byte) : number2 hi lo ≤ 65535 := by
  have := hi.isLt
  have := lo.isLt
  unfold number2
  omega

theorem lengthOf_le (b2 b1 b0 : Byte) : lengthOf b2 b1 b0 ≤ Config.maxLength := by
  have := b2.isLt
  have := b1.isLt
  have := b0.isLt
  unfold lengthOf number3
  split <;> simp only [Config.maxLength] <;> omega

theorem recurrenceOf_range {present period : Byte} {remaining : Nat} {r : Option Recurrence} (hrem : remaining ≤ 65535)
    (h : recurrenceOf present period remaining = some r) :
    ∀ x ∈ r, (1 ≤ x.period ∧ x.period ≤ 255) ∧ x.remaining ≤ 65535 := by
  unfold recurrenceOf at h
  split at h
  · cases h
  · cases h
    exact nofun
  · split at h
    · cases h
    · rename_i hperiod
      cases h
      rintro x hx
      cases hx
      have hpos : period.toNat ≠ 0 := fun h0 => hperiod (BitVec.eq_of_toNat_eq h0)
      have := period.isLt
      exact ⟨⟨by simp only; omega, by simp only; omega⟩, hrem⟩

theorem openBlock_served (h : HostId) (payload : List Byte) (s : State) : Served h s (openBlock h payload s).state := by
  unfold openBlock
  split
  · split
    · exact .stands
    · split
      · exact .stands
      · exact .opened _ _ (Bool.eq_false_iff.mpr ‹_›)
  · exact .stands

theorem portResetBlock_served (h : HostId) (payload : List Byte) (s : State) :
    Served h s (portResetBlock h payload s).state := by
  refine .portCleared _ ?_
  split
  · exact .inr ⟨‹_›, rfl⟩
  · exact .inl rfl

theorem readNoticesBlock_served (h : HostId) (payload : List Byte) (s : State) (ho : Open s h) :
    Served h s (readNoticesBlock h payload s).state := by
  unfold readNoticesBlock
  split
  · split
    · exact .stands
    · exact .noticesRead _ ho
  · exact .stands

theorem setNoticeMapsBlock_served (h : HostId) (payload : List Byte) (s : State) (ho : Open s h) :
    Served h s (setNoticeMapsBlock h payload s).state := by
  unfold setNoticeMapsBlock
  split
  · split
    · exact .mapsSet _ _ ho
    · exact .stands
  · exact .stands

theorem ackConditionsBlock_served (h : HostId) (payload : List Byte) (s : State) (ho : Open s h) :
    Served h s (ackConditionsBlock h payload s).state := by
  unfold ackConditionsBlock
  split
  · split
    · exact .acknowledged _ ho
    · exact .stands
  · exact .stands

theorem tbHoldBlock_served (h : HostId) (payload : List Byte) (s : State) (ho : Open s h) :
    Served h s (tbHoldBlock h payload s).state := by
  unfold tbHoldBlock
  split
  · exact .holdTaken ‹_› ho
  · split <;> exact .stands

theorem tbReleaseBlock_served (h : HostId) (payload : List Byte) (s : State) :
    Served h s (tbReleaseBlock h payload s).state := by
  unfold tbReleaseBlock
  split
  · exact .holdReleased ‹_›
  · exact .stands

theorem State.startOutcome_served (h : HostId) (s : State) (f : StartFields) (hlimit : f.runLimit ≤ 65535) :
    Served h s (s.startOutcome f).state := by
  unfold State.startOutcome
  split
  · split
    · exact .started f hlimit (.inl ‹_›) ‹_›
    · exact .stands
  · split
    · exact .started f hlimit (.inr ‹_›) ‹_›
    · exact .stands
  · exact .stands
  · split
    · exact .stopCancelled _ hlimit ‹_›
    · exact .stands

theorem tbStartBlock_served (h : HostId) (payload : List Byte) (s : State) : Served h s (tbStartBlock h payload s).state := by
  unfold tbStartBlock
  split
  · split
    · split
      · exact s.startOutcome_served h _ (number2_le _ _)
      · exact .stands
    · exact .stands
  · exact .stands

theorem tbStopBlock_served (h : HostId) (payload : List Byte) (s : State) : Served h s (tbStopBlock h payload s).state := by
  unfold tbStopBlock
  split
  · split
    · split
      · next hh =>
        unfold State.stopOutcome
        split
        · exact .stands
        · exact .stoppedIdle (.inl ‹_›)
        · exact .stoppedIdle (.inr ‹_›)
        · split
          · exact .tbSet _ (.stopsAtWrap ‹_›) hh
          · exact .stoppedNow ‹_›
      · exact .stands
    · exact .stands
  · exact .stands

theorem tbSetFrameBlock_served (h : HostId) (payload : List Byte) (s : State) :
    Served h s (tbSetFrameBlock h payload s).state := by
  unfold tbSetFrameBlock
  split
  · next b2 b1 b0 =>
    split
    · exact .stands
    · next hmin =>
      have hn := And.intro (Nat.le_of_not_lt hmin) (lengthOf_le b2 b1 b0)
      split
      · unfold State.setLength
        split
        · exact .lengthStaged _ hn ‹_› ‹_›
        · split
          · exact .stands
          · exact .lengthApplied _ hn ‹_› (Nat.lt_of_not_le ‹_›)
      · exact .stands
  · exact .stands

theorem tbSetSyncBlock_served (h : HostId) (payload : List Byte) (s : State) :
    Served h s (tbSetSyncBlock h payload s).state := by
  unfold tbSetSyncBlock
  split
  · split
    · exact .stands
    · split
      · exact .stands
      · split
        · exact .tbSet _ (.sync _ _ (Nat.le_of_not_lt ‹_›)) ‹_›
        · exact .stands
  · exact .stands

theorem tbSetPrescaleBlock_served (h : HostId) (payload : List Byte) (s : State) :
    Served h s (tbSetPrescaleBlock h payload s).state := by
  unfold tbSetPrescaleBlock
  split
  · split
    · split
      · exact .tbSet _ (.prescale _ (.inl ‹_›)) ‹_›
      · exact .tbSet _ (.prescale _ (.inr ‹_›)) ‹_›
      · exact .stands
      · exact .stands
    · exact .stands
  · exact .stands

/-- What the fields of a SCHEDULE name (R6). -/
theorem State.offerOf_spec {s : State} {h : HostId} {payload : List Byte} {o : Offer} (ho : s.offerOf h payload = some o) :
    o.origin = .host ∧ o.owner = h ∧ ∀ r ∈ o.recurrence, (1 ≤ r.period ∧ r.period ≤ 255) ∧ r.remaining ≤ 65535 := by
  unfold State.offerOf at ho
  split at ho
  · simp only [Option.bind_eq_bind, Option.bind_eq_some_iff, Option.some.injEq] at ho
    obtain ⟨deed, _, recurrence, hrec, tag, _, late, _, notify, _, rfl⟩ := ho
    exact ⟨rfl, rfl, recurrenceOf_range (number2_le _ _) hrec⟩
  · cases ho

theorem scheduleBlock_served (h : HostId) (payload : List Byte) (s : State) (ho : Open s h) :
    Served h s (scheduleBlock h payload s).state := by
  unfold scheduleBlock
  split
  · exact .stands
  · next o hoffer =>
    obtain ⟨hhost, howner, hrec⟩ := State.offerOf_spec hoffer
    split
    · exact .stands
    · exact .scheduled o _ _ hhost howner hrec ho ‹_›

theorem cancelBlock_served (h : HostId) (payload : List Byte) (s : State) : Served h s (cancelBlock h payload s).state := by
  unfold cancelBlock
  split
  · split
    · exact .stands
    · split
      · exact .stands
      · next e he =>
        split
        · exact .cancelled e (List.mem_of_find?_eq_some he)
        · exact .stands
  · exact .stands

theorem cancelGroupBlock_served (h : HostId) (payload : List Byte) (s : State) :
    Served h s (cancelGroupBlock h payload s).state := by
  unfold cancelGroupBlock
  split
  · split
    · exact .stands
    · exact .groupCancelled _
  · exact .stands

theorem queryEntryBlock_state (h : HostId) (payload : List Byte) (s : State) : (queryEntryBlock h payload s).state = s := by
  unfold queryEntryBlock
  split
  · split
    · rfl
    · split <;> rfl
  · rfl

theorem lineStatusBlock_state (h : HostId) (payload : List Byte) (s : State) : (lineStatusBlock h payload s).state = s := by
  unfold lineStatusBlock
  split
  · split <;> rfl
  · rfl

theorem senseStatusBlock_state (h : HostId) (payload : List Byte) (s : State) : (senseStatusBlock h payload s).state = s := by
  unfold senseStatusBlock
  split
  · split <;> rfl
  · rfl

theorem claimBlock_served (h : HostId) (payload : List Byte) (s : State) (ho : Open s h) :
    Served h s (claimBlock h payload s).state := by
  have queued (l : LineId) (ask : Ask) (wait : Bool) (settings : LineSettings) (hclaimed : (s.claim l).state ≠ .free)
      (hshared : (s.claim l).state = .shared → (s.claim l).waiting = [] → ask.mode = .exclusive)
      (hout : ¬ (s.claim l).holders.get h = true) (hnew : ¬ (s.claim l).awaitedBy h = true) :
      Served h s (s.queueClaim h l ask wait settings).state := by
    unfold State.queueClaim
    dsimp only
    split
    · exact .claimQueued l ask settings hclaimed hshared (Bool.eq_false_iff.mpr hout) (Bool.eq_false_iff.mpr hnew) ho
    · exact .stands
  unfold claimBlock
  split
  · exact .stands
  · next l ask wait settings _ =>
    dsimp only
    split
    · exact .stands
    · split
      · exact .stands
      · split
        · exact .claimGranted l _ settings ‹_› ho
        · exact .claimJoined l ‹_› ‹_› ho
        · next asked _ _ _ hfree _ hjoins =>
          refine queued l asked wait settings hfree (fun hs hw => ?_) ‹_› ‹_›
          cases asked with
          | exclusive => rfl
          | shared policy => exact (hjoins policy hs rfl hw).elim

theorem releaseBlock_served (h : HostId) (payload : List Byte) (s : State) : Served h s (releaseBlock h payload s).state := by
  unfold releaseBlock
  split
  · split
    · exact .stands
    · split
      · rw [State.accept_state]
        exact .released _ ‹_›
      · split
        · rw [State.accept_state]
          exact .placeWithdrawn _ (Bool.eq_false_iff.mpr ‹_›) ‹_›
        · exact .stands
  · exact .stands

/-- Sole control is the holding of the line by the requester and no other (R75). -/
theorem State.soleControl_none {s : State} {h : HostId} {l : LineId} (hs : s.soleControl h l = none) :
    (s.claim l).holders.get h = true ∧ onlyHost (s.claim l).holders h = true := by
  unfold State.soleControl at hs
  split at hs
  · cases hs
  · split at hs
    · exact ⟨eq_true_of_not_not ‹_›, ‹_›⟩
    · cases hs

theorem lineSetupBlock_served (h : HostId) (payload : List Byte) (s : State) :
    Served h s (lineSetupBlock h payload s).state := by
  unfold lineSetupBlock
  split
  · split
    · split
      · exact .stands
      · exact .outputChanged _ _ (.setUp _) (State.soleControl_none ‹_›).1
    · exact .stands
  · exact .stands

theorem outputHoldBlock_served (h : HostId) (payload : List Byte) (s : State) :
    Served h s (outputHoldBlock h payload s).state := by
  unfold outputHoldBlock
  split
  · split
    · split
      · exact .stands
      · split
        · exact .stands
        · exact .outputChanged _ _ .held (State.soleControl_none ‹_›).1
    · exact .stands
  · exact .stands

theorem outputForceBlock_served (h : HostId) (payload : List Byte) (s : State) :
    Served h s (outputForceBlock h payload s).state := by
  unfold outputForceBlock
  split
  · split
    · split
      · exact .stands
      · split
        · exact .stands
        · exact .outputChanged _ _ (.forced _) (State.soleControl_none ‹_›).1
    · exact .stands
  · exact .stands

theorem outputFollowBlock_served (h : HostId) (payload : List Byte) (s : State) :
    Served h s (outputFollowBlock h payload s).state := by
  unfold outputFollowBlock
  split
  · split
    · split
      · exact .stands
      · split
        · exact .stands
        · exact .outputChanged _ _ .followed (State.soleControl_none ‹_›).1
    · exact .stands
  · exact .stands

theorem senseSetupBlock_served (h : HostId) (payload : List Byte) (s : State) :
    Served h s (senseSetupBlock h payload s).state := by
  unfold senseSetupBlock
  split
  · split
    · dsimp only
      split
      · exact .stands
      · exact .channelSetUp _ _ _ _ _
    · exact .stands
  · exact .stands

theorem subscribeBlock_served (h : HostId) (payload : List Byte) (s : State) (ho : Open s h) :
    Served h s (subscribeBlock h payload s).state := by
  unfold subscribeBlock
  split
  · split
    · exact .stands
    · split
      · exact .stands
      · exact .subscribed _ ho
  · exact .stands

theorem unsubscribeBlock_served (h : HostId) (payload : List Byte) (s : State) :
    Served h s (unsubscribeBlock h payload s).state := by
  unfold unsubscribeBlock
  split
  · split
    · exact .stands
    · split
      · exact .stands
      · rw [State.accept_state]
        exact .unsubscribed _ (eq_true_of_not_not ‹_›)
  · exact .stands

theorem senseRearmBlock_served (h : HostId) (payload : List Byte) (s : State) :
    Served h s (senseRearmBlock h payload s).state := by
  unfold senseRearmBlock
  split
  · split
    · exact .stands
    · split
      · exact .stands
      · rw [State.accept_state]
        exact .rearmed _ (eq_true_of_not_not ‹_›)
  · exact .stands

/-- The reflex that the fields of a REFLEX_SET name is the requester's (R123). -/
theorem reflexOf_owner {h : HostId} {payload : List Byte} {c : ChannelId} {r : Reflex} (hr : reflexOf h payload = some (c, r)) :
    r.owner = h := by
  unfold reflexOf at hr
  split at hr
  · simp only [Option.bind_eq_bind, Option.bind_eq_some_iff] at hr
    obtain ⟨_, _, _, _, _, _, _, _, _, _, hr⟩ := hr
    split at hr
    · cases hr
    · cases hr
      rfl
  · cases hr

theorem reflexSetBlock_served (h : HostId) (payload : List Byte) (s : State) (ho : Open s h) :
    Served h s (reflexSetBlock h payload s).state := by
  unfold reflexSetBlock
  split
  · exact .stands
  · split
    · exact .stands
    · exact .reflexSet _ _ (reflexOf_owner ‹_›) ‹_› ho

theorem reflexClearBlock_served (h : HostId) (payload : List Byte) (s : State) :
    Served h s (reflexClearBlock h payload s).state := by
  unfold reflexClearBlock
  split
  · split
    · exact .stands
    · split
      · exact .stands
      · split
        · exact .reflexCleared _
        · exact .stands
  · exact .stands

/-- Every request leaves one of the states of `Served`. -/
theorem IsRequest.served {row : RequestRow} {block : Block} (hb : IsRequest row block) (h : HostId) (payload : List Byte)
    (s : State) (ho : row.sessionless = true ∨ Open s h) : Served h s (block h payload s).state := by
  have inSession : row.sessionless = false → Open s h := fun hf => ho.resolve_left (by simp [hf])
  cases hb with
  | nop => exact .stands
  | opening => exact openBlock_served h payload s
  | closing =>
    have ended : (closeBlock h payload s).state = s.endSession h .close := State.accept_state _ _
    exact ended ▸ .closed (inSession rfl)
  | portReset => exact portResetBlock_served h payload s
  | hostStatus => exact .stands
  | ident => exact .stands
  | readNotices => exact readNoticesBlock_served h payload s (inSession rfl)
  | setNoticeMaps => exact setNoticeMapsBlock_served h payload s (inSession rfl)
  | ackConditions => exact ackConditionsBlock_served h payload s (inSession rfl)
  | tbHold => exact tbHoldBlock_served h payload s (inSession rfl)
  | tbRelease => exact tbReleaseBlock_served h payload s
  | tbStart => exact tbStartBlock_served h payload s
  | tbStop => exact tbStopBlock_served h payload s
  | tbSetFrame => exact tbSetFrameBlock_served h payload s
  | tbSetSync => exact tbSetSyncBlock_served h payload s
  | tbSetPrescale => exact tbSetPrescaleBlock_served h payload s
  | readTime => exact .stands
  | tbStatus => exact .stands
  | schedule => exact scheduleBlock_served h payload s (inSession rfl)
  | cancel => exact cancelBlock_served h payload s
  | cancelGroup => exact cancelGroupBlock_served h payload s
  | queryEntry => rw [queryEntryBlock_state]; exact .stands
  | scheduleStatus => exact .stands
  | claim => exact claimBlock_served h payload s (inSession rfl)
  | release => exact releaseBlock_served h payload s
  | lineSetup => exact lineSetupBlock_served h payload s
  | outputHold => exact outputHoldBlock_served h payload s
  | outputForce => exact outputForceBlock_served h payload s
  | outputFollow => exact outputFollowBlock_served h payload s
  | lineStatus => rw [lineStatusBlock_state]; exact .stands
  | senseSetup => exact senseSetupBlock_served h payload s
  | subscribe => exact subscribeBlock_served h payload s (inSession rfl)
  | unsubscribe => exact unsubscribeBlock_served h payload s
  | senseRearm => exact senseRearmBlock_served h payload s
  | senseStatus => rw [senseStatusBlock_state]; exact .stands
  | reflexSet => exact reflexSetBlock_served h payload s (inSession rfl)
  | reflexClear => exact reflexClearBlock_served h payload s

/-! ## Steps -/

/-- What a step can do: one request or one event, nothing, or a housekeeping period. -/
inductive Effect (s : State) : State → Prop where
  | nothing : Effect s s
  | request (p : HostId) (row : RequestRow) (block : Block) (hb : IsRequest row block) : Effect s (s.takeRequest p row block)
  | unknown (p : HostId) : Effect s (s.takeUnknown p)
  | selected (p : HostId) : Effect s (s.selectPort p)
  | clocked (p : HostId) (edge : ClockEdge) (sdi : Level) : Effect s (s.clockPort p edge sdi)
  | endedWithoutFrame (p : HostId) : Effect s (s.endWithoutFrame p)
  | abandoned (p : HostId) : Effect s (s.abandon p)
  | silence (h : HostId) (ho : Open s h) : Effect s (s.endSession h .silence)
  | ticked : Effect s s.runTick
  | cycled (hr : s.resetN = true) : Effect s s.refclkCycle
  | synced : Effect s s.syncEdge
  | absent (hr : s.resetN = true) : Effect s s.countMonitor.declareAbsent
  | present (hr : s.resetN = true) (hv : s.tb.monitor.verdict = .absent) : Effect s s.countMonitor.declarePresent
  | driven (c : ChannelId) (level : Level) : Effect s (s.driveSense c level)
  | captured (c : ChannelId) (level : Level) (hc : s.capturesNext c level = true) : Effect s s.refclkCycle
  | reset (pins : ResetPins) (senses : BitVec 8) : Effect s (s.deviceReset pins senses)
  | period : Effect s s.housekeepingPeriod

theorem Effect.ite {s t : State} (c : Prop) [Decidable c] (ht : c → Effect s t) : Effect s (if c then t else s) := by
  split
  · exact ht ‹_›
  · exact .nothing

/-- A session whose timer expires is open (R159). -/
theorem SessionRec.expired_isOpen {r : SessionRec} (h : r.counted.expired = true) : r.isOpen = true := by
  unfold SessionRec.expired SessionRec.counted at h
  split at h
  · assumption
  · simp_all

theorem State.declaresFrom_spec {s : State} {v : RefVerdict} (h : s.declaresFrom v = true) :
    s.resetN = true ∧ s.tb.monitor.verdict = v ∧ s.tb.monitor.counted.declares = true := by
  simpa [State.declaresFrom, and_assoc] using h

/-- The capturing edge of a channel is a change of its line, a tick or a REFCLK cycle (R110, R111). -/
theorem State.captureEvent_effect (s : State) (c : ChannelId) (level : Level) (hc : s.capturesNext c level = true) :
    Effect s (s.captureEvent c level) := by
  unfold State.captureEvent
  split
  · exact .driven c level
  · exact .ite _ fun _ => .ticked
  · exact .ite _ fun _ => .captured c level hc

/-- Every command has one of these effects. -/
theorem exec_effect (c : Instr) (s : State) : ∃ t, exec c s = .next t ∧ Effect s t := by
  cases c with
  | chipSelectFalling p => exact ⟨_, rfl, .selected p⟩
  | transactionEnd p => exact ⟨_, rfl, .endedWithoutFrame p⟩
  | transactionAbandoned p => exact ⟨_, rfl, .ite _ fun _ => .abandoned p⟩
  | badOpcodeFrame p => exact ⟨_, rfl, .unknown p⟩
  | nop p => exact ⟨_, rfl, .request p _ _ .nop⟩
  | openSession p => exact ⟨_, rfl, .request p _ _ .opening⟩
  | closeSession p => exact ⟨_, rfl, .request p _ _ .closing⟩
  | portReset p => exact ⟨_, rfl, .request p _ _ .portReset⟩
  | hostStatus p => exact ⟨_, rfl, .request p _ _ .hostStatus⟩
  | ident p => exact ⟨_, rfl, .request p _ _ .ident⟩
  | readNotices p => exact ⟨_, rfl, .request p _ _ .readNotices⟩
  | setNoticeMaps p => exact ⟨_, rfl, .request p _ _ .setNoticeMaps⟩
  | ackConditions p => exact ⟨_, rfl, .request p _ _ .ackConditions⟩
  | tbHold p => exact ⟨_, rfl, .request p _ _ .tbHold⟩
  | tbRelease p => exact ⟨_, rfl, .request p _ _ .tbRelease⟩
  | tbStart p => exact ⟨_, rfl, .request p _ _ .tbStart⟩
  | tbStop p => exact ⟨_, rfl, .request p _ _ .tbStop⟩
  | tbSetFrame p => exact ⟨_, rfl, .request p _ _ .tbSetFrame⟩
  | tbSetSync p => exact ⟨_, rfl, .request p _ _ .tbSetSync⟩
  | tbSetPrescale p => exact ⟨_, rfl, .request p _ _ .tbSetPrescale⟩
  | readTime p => exact ⟨_, rfl, .request p _ _ .readTime⟩
  | tbStatus p => exact ⟨_, rfl, .request p _ _ .tbStatus⟩
  | schedule p => exact ⟨_, rfl, .request p _ _ .schedule⟩
  | cancel p => exact ⟨_, rfl, .request p _ _ .cancel⟩
  | cancelGroup p => exact ⟨_, rfl, .request p _ _ .cancelGroup⟩
  | queryEntry p => exact ⟨_, rfl, .request p _ _ .queryEntry⟩
  | scheduleStatus p => exact ⟨_, rfl, .request p _ _ .scheduleStatus⟩
  | claim p => exact ⟨_, rfl, .request p _ _ .claim⟩
  | release p => exact ⟨_, rfl, .request p _ _ .release⟩
  | lineSetup p => exact ⟨_, rfl, .request p _ _ .lineSetup⟩
  | outputHold p => exact ⟨_, rfl, .request p _ _ .outputHold⟩
  | outputForce p => exact ⟨_, rfl, .request p _ _ .outputForce⟩
  | outputFollow p => exact ⟨_, rfl, .request p _ _ .outputFollow⟩
  | lineStatus p => exact ⟨_, rfl, .request p _ _ .lineStatus⟩
  | senseSetup p => exact ⟨_, rfl, .request p _ _ .senseSetup⟩
  | subscribe p => exact ⟨_, rfl, .request p _ _ .subscribe⟩
  | unsubscribe p => exact ⟨_, rfl, .request p _ _ .unsubscribe⟩
  | senseRearm p => exact ⟨_, rfl, .request p _ _ .senseRearm⟩
  | senseStatus p => exact ⟨_, rfl, .request p _ _ .senseStatus⟩
  | reflexSet p => exact ⟨_, rfl, .request p _ _ .reflexSet⟩
  | reflexClear p => exact ⟨_, rfl, .request p _ _ .reflexClear⟩
  | silenceExpiry h => exact ⟨_, rfl, .ite _ fun he => .silence h (SessionRec.expired_isOpen he)⟩
  | tick => exact ⟨_, rfl, .ticked⟩
  | pulseEnd line =>
    refine ⟨_, rfl, ?_⟩
    split
    · exact .ite _ fun _ => .ticked
    · exact .nothing
  | naturalWrap => exact ⟨_, rfl, .ite _ fun _ => .ticked⟩
  | runLimit => exact ⟨_, rfl, .ite _ fun _ => .ticked⟩
  | syncLost => exact ⟨_, rfl, .ite _ fun _ => .ticked⟩
  | syncEdge => exact ⟨_, rfl, .synced⟩
  | refLost => exact ⟨_, rfl, .ite _ fun hd => .absent (State.declaresFrom_spec hd).1⟩
  | refBack => exact ⟨_, rfl, .ite _ fun hd => .present (State.declaresFrom_spec hd).1 (State.declaresFrom_spec hd).2.1⟩
  | senseEdge channel level =>
    refine ⟨_, rfl, ?_⟩
    split
    · exact .driven _ level
    · exact .nothing
  | capture channel level =>
    refine ⟨_, rfl, ?_⟩
    split
    · split
      · exact s.captureEvent_effect _ level ‹_›
      · exact .nothing
    · exact .nothing
  | deviceReset pins senses => exact ⟨_, rfl, .reset pins senses⟩
  | spiClockEdge p edge sdi => exact ⟨_, rfl, .clocked p edge sdi⟩
  | refclkCycle => exact ⟨_, rfl, .ite _ fun hr => .cycled hr⟩

/-- Every step has one of these effects, on the state with the queue's rest. -/
theorem step_effect {s t : State} (h : step s = .next t) : ∃ q, Effect (s.setPending q) t := by
  unfold step at h
  split at h
  · next hq =>
    cases h
    exact ⟨s.pending, .period⟩
  · next c rest hq =>
    obtain ⟨u, hu, he⟩ := exec_effect c (s.setPending rest)
    rw [hu] at h
    cases h
    exact ⟨rest, he⟩

/-- What holds before a step, whatever the queue, and is kept by every effect, holds behind it. -/
theorem step_holds {P : State → Prop} (hqueue : ∀ s q, P s → P (s.setPending q)) (heffect : ∀ s t, P s → Effect s t → P t)
    {s t : State} (hs : P s) (h : step s = .next t) : P t := by
  obtain ⟨q, he⟩ := step_effect h
  exact heffect _ t (hqueue s q hs) he

/-- A request keeps what its arrival, its answers and its block keep. -/
theorem State.takeRequest_holds {P : State → Prop} (s : State) (p : HostId) (row : RequestRow) (block : Block) (hs : P s)
    (hbad : ∀ tag, P s → P ((s.endTransaction p).answerBadCrc p tag)) (harrive : P s → P (arrived s p))
    (hrefuse : ∀ t tag st, P t → P (t.placeReply p tag st []))
    (hblock : ∀ payload tag, (row.sessionless = true ∨ Open (arrived s p) p) → P (arrived s p) →
      P ((block p payload (arrived s p)).state.placeReply p tag (block p payload (arrived s p)).status
        (block p payload (arrived s p)).payload)) : P (s.takeRequest p row block) := by
  rcases s.takeRequest_cases p row block with h | ⟨f, _, _, ⟨_, h⟩ | ⟨_, ⟨st, _, h⟩ | ⟨_, ho, h⟩⟩⟩
  · rw [h]; exact hs
  · rw [h]; exact hbad _ hs
  · rw [h]; exact hrefuse _ _ _ (harrive hs)
  · rw [h]; exact hblock _ _ (ho.imp_right fun hopen => by rw [Open, State.session, State.arrived_isOpen]; exact hopen) (harrive hs)

end Sys2Proof.Machine
end

section
/-! What every step keeps of the notice records: a property of each host's record beside its session, kept by the changes of chapter 7,
is kept by every step. The attention output (R146) and the queues' room (R133) are such properties. -/

set_option Elab.async false

namespace Sys2Proof.Machine

open Sys2Proof.Safety

/-- The changes of a host's notice record while its session is open (chapter 7), the attention output yet to be settled. -/
inductive NoticeChange (r : NoticeRec) : NoticeRec → Prop where
  | arrived (stamp : Time) (body : NoticeBody) : NoticeChange r (r.arrive stamp body)
  | alerted : NoticeChange r { r with conditions := { r.conditions with tbAlert := true } }
  | frameError : NoticeChange r { r with conditions := { r.conditions with frameError := true } }
  | read (n : Nat) : NoticeChange r (r.dropN n)
  | mapped (urgency mask : KindSet) : NoticeChange r { r with urgencyMap := urgency, attentionMask := mask }
  | acknowledged (named : Conditions) : NoticeChange r (r.acknowledge named)

/-- A property of a host's notice record and of whether its session is open, which every change of chapter 7 keeps. -/
structure NoticeLaw (Q : NoticeRec → Bool → Prop) : Prop where
  change : ∀ r r', Q r true → NoticeChange r r' → Q { r' with attention := r'.wantsAttention true } true
  flushed : ∀ r o, Q r o → Q r.flushed false
  fresh : ∀ o, Q .reset o

/-- The property holds of every host's record. -/
def EveryRecord (Q : NoticeRec → Bool → Prop) (s : State) : Prop := ∀ h, Q (s.noticeRec h) (s.session h).isOpen

section Walk

variable {Q : NoticeRec → Bool → Prop} (law : NoticeLaw Q) {s t : State}

theorem EveryRecord.of_touches {m : Touched} (hs : EveryRecord Q s) (h : OnlyTouches m s t)
    (hn : m.notices = false := by rfl) (ho : m.sessions = false := by rfl) : EveryRecord Q t := by
  intro k
  rw [State.noticeRec, State.session, h.notices hn, h.sessions ho]
  exact hs k

/-- A host's session and notice record replaced together. -/
theorem EveryRecord.replaced (hs : EveryRecord Q s) (h : HostId) (x : SessionRec) (r : NoticeRec) (hr : Q r x.isOpen) :
    EveryRecord Q ((s.setSession h x).setNotice h r) := by
  intro k
  by_cases hk : k = h
  · subst hk
    simpa [State.noticeRec, State.session] using hr
  · simpa [State.noticeRec, State.session, Quad.get_set_ne _ _ hk] using hs k

/-- A session that stays open, or closed, keeps the property. -/
theorem EveryRecord.setSession (hs : EveryRecord Q s) (h : HostId) (x : SessionRec) (hx : x.isOpen = (s.session h).isOpen) :
    EveryRecord Q (s.setSession h x) := by
  intro k
  rw [State.session_setSession]
  split
  · next hk => rw [hx, ← hk]; exact hs k
  · exact hs k

theorem SessionRec.counted_isOpen (r : SessionRec) : r.counted.isOpen = r.isOpen := by
  unfold SessionRec.counted
  split <;> rfl

theorem EveryRecord.arrived (hs : EveryRecord Q s) (p : HostId) : EveryRecord Q (Safety.arrived s p) := by
  intro k
  rw [State.session, State.arrived_isOpen]
  exact hs k

include law

theorem EveryRecord.putNotices (hs : EveryRecord Q s) {h : HostId} {r : NoticeRec} (ho : Open s h)
    (hr : NoticeChange (s.noticeRec h) r) : EveryRecord Q (s.putNotices h r) := by
  intro k
  have hsession : (s.putNotices h r).session k = s.session k := rfl
  rw [hsession, State.noticeRec, s.putNotices_notices, Quad.get_set]
  split
  · next hk =>
    subst hk
    have hold := hs k
    rw [ho] at hold ⊢
    exact law.change _ r hold hr
  · exact hs k

theorem EveryRecord.notifyAt (hs : EveryRecord Q s) (h : HostId) (stamp : Time) (body : NoticeBody) :
    EveryRecord Q (s.notifyAt h stamp body) := by
  cases ho : (s.session h).isOpen with
  | true => rw [s.notifyAt_open h stamp body ho]; exact hs.putNotices law ho (.arrived stamp body)
  | false => rw [s.notifyAt_closed h stamp body ho]; exact hs

theorem EveryRecord.notify (hs : EveryRecord Q s) (h : HostId) (body : NoticeBody) : EveryRecord Q (s.notify h body) :=
  hs.notifyAt law h s.now body

theorem EveryRecord.notifyEach (hs : EveryRecord Q s) (hosts : List HostId) (stamp : Time) (body : NoticeBody) :
    EveryRecord Q (s.notifyEach hosts stamp body) :=
  foldl_holds (EveryRecord Q) _ hosts (fun _ ht h _ => ht.notifyAt law h stamp body) s hs

theorem EveryRecord.tellTimebase (hs : EveryRecord Q s) (stamp : Time) (body : NoticeBody) (extra : Option HostId) :
    EveryRecord Q (s.tellTimebase stamp body extra) := hs.notifyEach law _ _ _

theorem EveryRecord.tellMode (hs : EveryRecord Q s) (cause : TbCause) (extra : Option HostId) :
    EveryRecord Q (s.tellMode cause extra) := hs.notifyEach law _ _ _

theorem EveryRecord.alertHost (hs : EveryRecord Q s) (h : HostId) : EveryRecord Q (s.alertHost h) := by
  unfold State.alertHost
  split
  · exact hs.putNotices law ‹_› .alerted
  · exact hs

theorem EveryRecord.alertAll (hs : EveryRecord Q s) : EveryRecord Q s.alertAll :=
  foldl_holds (EveryRecord Q) _ allHosts (fun _ ht h _ => ht.alertHost law h) s hs

theorem EveryRecord.flagFrameError (hs : EveryRecord Q s) (h : HostId) : EveryRecord Q (s.flagFrameError h) := by
  unfold State.flagFrameError
  split
  · exact hs.putNotices law ‹_› .frameError
  · exact hs

/-! ## The schedule -/

theorem EveryRecord.removeEntries (hs : EveryRecord Q s) (goes : Entry → Bool) (news : Handle → Option NoticeBody) :
    EveryRecord Q (s.removeEntries goes news) := by
  rw [s.removeEntries_fold]
  refine foldl_holds (EveryRecord Q) _ _ (fun t ht e _ => ?_) s hs
  unfold State.removeOne
  split
  · exact ht.of_touches (t.leave_touches e)
  · exact (ht.of_touches (t.leave_touches e)).notify law _ _

theorem EveryRecord.conclude (hs : EveryRecord Q s) (late : Bool) (e : Entry) : EveryRecord Q (s.conclude late e) := by
  have rearmed : EveryRecord Q (s.rearmBy e.deed) := by
    unfold State.rearmBy State.rearm
    split
    · split
      · exact hs
      · exact hs.of_touches (s.setChannel_touches _ _)
    · exact hs
  have after : EveryRecord Q ((s.rearmBy e.deed).afterFiring e).state := by
    have left := rearmed.of_touches ((s.rearmBy e.deed).leave_touches e)
    unfold State.afterFiring State.continueEntry
    split
    · exact left
    · split
      · exact left
      · dsimp only
        split
        · exact left
        · exact (rearmed.of_touches (State.setEntries_touches _ _)).of_touches (State.setEntries_touches _ _)
  unfold State.conclude
  dsimp only
  have told : EveryRecord Q (if e.notify = true then
      ((s.rearmBy e.deed).afterFiring e).state.notify e.owner
        (.fired e.handle e.deed.action e.deed.target (s.resultLevel e.deed) late ((s.rearmBy e.deed).afterFiring e).final
          ((s.rearmBy e.deed).afterFiring e).remaining e.origin)
      else ((s.rearmBy e.deed).afterFiring e).state) := by
    split
    · exact after.notify law _ _
    · exact after
  split
  · exact told
  · exact told.notify law _ _

theorem EveryRecord.fireDue (hs : EveryRecord Q s) : EveryRecord Q s.fireDue :=
  foldl_holds (EveryRecord Q) _ _ (fun _ ht e _ => ht.conclude law false e) _ (hs.of_touches (s.applyGroups_touches _))

theorem EveryRecord.overtake (hs : EveryRecord Q s) : EveryRecord Q s.overtake := by
  rw [s.overtake_eq]
  refine foldl_holds (EveryRecord Q) _ _ (fun t ht e _ => ?_) _ (hs.of_touches (s.applyGroups_touches _))
  unfold State.overtakeOne
  split
  · exact ht.conclude law true e
  · exact (ht.of_touches (t.leave_touches e)).notify law _ _

/-! ## Reflexes and channels -/

theorem EveryRecord.removeReflexes (hs : EveryRecord Q s) (goes : ChannelId → Reflex → Bool) (reason : Option RemovalReason) :
    EveryRecord Q (s.removeReflexes goes reason) := by
  rw [s.removeReflexes_fold]
  refine foldl_holds (EveryRecord Q) _ _ (fun t ht c _ => ?_) s hs
  unfold State.removeReflex
  split
  · exact ht
  · split
    · split
      · exact ht.of_touches (t.setReflex_touches c none)
      · exact (ht.of_touches (t.setReflex_touches c none)).notify law _ _
    · exact ht

theorem EveryRecord.triggerReflex (hs : EveryRecord Q s) (c : ChannelId) : EveryRecord Q (s.triggerReflex c) := by
  unfold State.triggerReflex
  split
  · exact hs
  · split
    · exact hs.of_touches (s.insert_joined_touches ‹_›)
    · exact hs.notify law _ _

theorem EveryRecord.takeEdge (hs : EveryRecord Q s) (c : ChannelId) (level : Level) : EveryRecord Q (s.takeEdge c level) := by
  unfold State.takeEdge
  split
  · split
    · exact (((hs.of_touches (s.setChannel_touches c _)).notifyEach law _ _ _).triggerReflex law c).of_touches
        (State.closeGate_touches _ c)
    · exact hs.of_touches (s.setChannel_touches c _)
  · exact hs

theorem EveryRecord.settleLevel (hs : EveryRecord Q s) (c : ChannelId) : EveryRecord Q (s.settleLevel c) :=
  (hs.of_touches (s.setChannel_touches c _)).takeEdge law c _

theorem EveryRecord.driveSense (hs : EveryRecord Q s) (c : ChannelId) (level : Level) : EveryRecord Q (s.driveSense c level) := by
  unfold State.driveSense
  dsimp only
  split
  · exact (hs.of_touches (s.setChannel_touches c _)).settleLevel law c
  · exact hs.of_touches (s.setChannel_touches c _)

/-! ## Claims -/

theorem EveryRecord.handOn (hs : EveryRecord Q s) (l : LineId) : EveryRecord Q (s.handOn l) := by
  unfold State.handOn
  split
  · exact (hs.of_touches (s.setClaim_touches l _)).of_touches (State.freeOutput_touches _ l)
  · split
    all_goals
      exact ((hs.of_touches (s.setClaim_touches l _)).of_touches (State.grantOutput_touches _ l _)).notifyEach law _ _ _

theorem EveryRecord.withdrawPlace (hs : EveryRecord Q s) (h : HostId) (l : LineId) : EveryRecord Q (s.withdrawPlace h l) := by
  have claimed := hs.of_touches (s.setClaim_touches l { s.claim l with
    waiting := (s.claim l).waiting.filter fun w => decide (w.host ≠ h) })
  unfold State.withdrawPlace State.admitRun
  dsimp only
  split
  · exact (claimed.of_touches (State.setClaim_touches _ l _)).notifyEach law _ _ _
  · exact claimed

theorem EveryRecord.endClaim (hs : EveryRecord Q s) (h : HostId) (l : LineId) : EveryRecord Q (s.endClaim h l) := by
  unfold State.endClaim State.leaveHolders
  dsimp only
  split
  · split
    · exact (hs.of_touches (s.setClaim_touches l _)).handOn law l
    · exact hs.of_touches (s.setClaim_touches l _)
  · split
    · exact hs.withdrawPlace law h l
    · exact hs

theorem EveryRecord.releaseHolding (hs : EveryRecord Q s) (h : HostId) (l : LineId) : EveryRecord Q (s.releaseHolding h l) := by
  have cleared := ((hs.of_touches (s.setClaim_touches l { s.claim l with holders := (s.claim l).holders.set h false })).removeEntries
    law (actsFor h l) fun x => some (.cancelled x .released)).removeReflexes law (fun _ r => r.targets h l) (some .released)
  unfold State.releaseHolding
  dsimp only
  split
  · exact cleared.handOn law l
  · exact cleared

/-! ## The timebase -/

theorem EveryRecord.discardOnRelease (hs : EveryRecord Q s) (h : HostId) : EveryRecord Q (s.discardOnRelease h) := by
  unfold State.discardOnRelease
  split
  · exact ((hs.removeEntries law _ _).of_touches (State.dropPlans_touches _)).tellMode law _ _
  · exact hs

theorem EveryRecord.stopNow (hs : EveryRecord Q s) : EveryRecord Q s.stopNow := by
  unfold State.stopNow
  dsimp only
  have told : ∀ (u : State) (news : List StopNews), EveryRecord Q u → EveryRecord Q (u.takeAll news (State.tellStop s)) := by
    intro u news hu
    refine State.takeAll_holds (EveryRecord Q) _ _ (fun v n hv => hv.of_touches (v.setChoices_touches n)) (fun v hv x _ => ?_) u hu
    cases x with
    | evictions => exact hv.removeEntries law _ _
    | stopped => exact hv.tellMode law _ _
  split
  · exact (told _ _ (hs.of_touches (s.setTb_touches _))).tellMode law _ _
  · exact told _ _ (hs.of_touches (s.setTb_touches _))

theorem EveryRecord.startTimebase (hs : EveryRecord Q s) (f : StartFields) : EveryRecord Q (s.startTimebase f) := by
  have restarted : EveryRecord Q (if f.restart then s.restart else s) := by
    split
    · exact ((hs.removeEntries law _ _).of_touches (State.setEntries_touches _ _)).of_touches (State.setTb_touches _ _)
    · exact hs
  exact (restarted.of_touches (State.setTb_touches _ _)).tellTimebase law _ _ _

theorem EveryRecord.afterWrap (hs : EveryRecord Q s) (w : WrapReport) : EveryRecord Q (s.afterWrap w) := by
  have newLength : EveryRecord Q (s.tellNewLength w.newLength) := by
    unfold State.tellNewLength
    split
    · exact hs
    · exact hs.tellTimebase law _ _ _
  have lost : EveryRecord Q ((s.tellNewLength w.newLength).tellLost w.lost) := by
    unfold State.tellLost
    split
    · exact (newLength.tellTimebase law _ _ _).alertAll law
    · exact newLength
  have fired := (lost.of_touches (State.claimedLines_touches _ OutputRec.frameReturned)).fireDue law
  unfold State.afterWrap State.haltIf State.haltAtWrap
  split
  · exact fired
  · exact (fired.of_touches (State.setTb_touches _ _)).tellMode law _ _

theorem EveryRecord.tickEffects (hs : EveryRecord Q s) (report : Option WrapReport) : EveryRecord Q (s.tickEffects report) := by
  have counted : EveryRecord Q s.countPulses := hs.of_touches (s.claimedLines_touches OutputRec.countDown)
  cases report with
  | none => exact counted.fireDue law
  | some w => exact counted.afterWrap law w

theorem EveryRecord.tick (hs : EveryRecord Q s) : EveryRecord Q s.tick := by
  have sampled := (hs.of_touches (s.setTb_touches s.tb.ticked)).of_touches (State.sampleAll_touches _ .tick)
  refine State.takeAll_holds (EveryRecord Q) _ _ (fun t n ht => ht.of_touches (t.setChoices_touches n)) (fun t ht x _ => ?_) _
    sampled
  cases x with
  | edge c => exact ht.settleLevel law c
  | main => exact ht.tickEffects law _

theorem EveryRecord.refclkCycle (hs : EveryRecord Q s) : EveryRecord Q s.refclkCycle := by
  have sampled := (hs.of_touches (s.setTb_touches s.tb.cycled)).of_touches (State.sampleAll_touches _ .refclk)
  refine State.takeAll_holds (EveryRecord Q) _ _ (fun t n ht => ht.of_touches (t.setChoices_touches n)) (fun t ht x _ => ?_) _
    sampled
  cases x with
  | edge c => exact ht.settleLevel law c
  | main => exact ht.tick law

theorem EveryRecord.runTick (hs : EveryRecord Q s) : EveryRecord Q s.runTick := by
  have cycles : ∀ n, ∀ u : State, EveryRecord Q u → EveryRecord Q (u.refclkCycles n) := by
    intro n
    induction n with
    | zero => exact fun _ hu => hu
    | succ n ih => exact fun u hu => ih _ (hu.refclkCycle law)
  unfold State.runTick
  split
  · exact cycles _ s hs
  · exact hs

theorem EveryRecord.alignedWrap (hs : EveryRecord Q s) : EveryRecord Q s.alignedWrap :=
  ((hs.overtake law).of_touches (State.setTb_touches _ _)).afterWrap law _

theorem EveryRecord.syncEdge (hs : EveryRecord Q s) : EveryRecord Q s.syncEdge := by
  unfold State.syncEdge
  split
  · unfold State.syncStart
    dsimp only
    split
    · exact ((hs.of_touches (s.setTb_touches _)).tellTimebase law _ _ _).tellMode law _ _
    · exact (hs.of_touches (s.setTb_touches _)).tellMode law _ _
  · unfold State.takeSyncEdge
    split
    · exact ((hs.of_touches (s.setTb_touches _)).tellTimebase law _ _ _).alignedWrap law
    · exact (hs.of_touches (s.setTb_touches _)).alignedWrap law
    · exact hs.of_touches (s.setTb_touches _)
    · exact (hs.tellTimebase law _ _ _).alignedWrap law
  · exact hs

theorem EveryRecord.declareAbsent (hs : EveryRecord Q s) : EveryRecord Q s.declareAbsent := by
  unfold State.declareAbsent
  dsimp only
  have told (u : Timebase) := (((hs.removeEntries law s.discardEvicts fun h => some (.evicted h .frameLength)).of_touches
    (State.setTb_touches _ u)).alertAll law).tellMode law .refLost none
  split
  · exact ((told _).tellMode law _ _).of_touches (State.claimedLines_touches _ _)
  · exact (told _).of_touches (State.claimedLines_touches _ _)

theorem EveryRecord.declarePresent (hs : EveryRecord Q s) : EveryRecord Q s.declarePresent :=
  (hs.of_touches (s.setTb_touches _)).tellMode law _ _

theorem EveryRecord.declare (hs : EveryRecord Q s) : EveryRecord Q s.declare := by
  unfold State.declare
  split
  · exact hs.declareAbsent law
  · exact hs.declarePresent law

/-! ## Sessions -/

theorem EveryRecord.endHold (hs : EveryRecord Q s) (h : HostId) : EveryRecord Q (s.endHold h) := by
  unfold State.endHold
  split
  · exact (hs.of_touches (s.setTb_touches _)).discardOnRelease law h
  · exact hs

theorem EveryRecord.endSession (hs : EveryRecord Q s) (h : HostId) (cause : EndCause) : EveryRecord Q (s.endSession h cause) := by
  have own : EveryRecord Q (s.endOwn h cause) :=
    (((hs.replaced h ((s.session h).ended cause) (s.noticeRec h).flushed (law.flushed _ _ (hs h))).of_touches
      (State.removeQuietly_touches _ _)).of_touches (State.removeReflexes_none_touches _ _)).of_touches
      (State.endSubscriptions_touches _ h)
  have hold : EveryRecord Q (if (s.endOwn h cause).endDiscards h then s.endOwn h cause else (s.endOwn h cause).endHold h) := by
    split
    · exact own
    · exact own.endHold law h
  have silent : EveryRecord Q ((s.endOwn h cause).endSilently h) :=
    foldl_holds (EveryRecord Q) _ _ (fun _ ht l _ => ht.endClaim law h l) _ hold
  refine State.takeAll_holds (EveryRecord Q) _ _ (fun t n ht => ht.of_touches (t.setChoices_touches n)) (fun t ht x _ => ?_) _ silent
  cases x with
  | timebase => exact ht.endHold law h
  | line l => exact ht.endClaim law h l

theorem EveryRecord.housekeepingPeriod (hs : EveryRecord Q s) : EveryRecord Q s.housekeepingPeriod := by
  have stalls : EveryRecord Q (allHosts.foldl State.stallCheck s) := hs.of_touches s.stallChecks_touches
  have timers : EveryRecord Q s.countPeriod :=
    (foldl_holds (EveryRecord Q) (fun v h => v.setSession h (v.session h).counted) _
      (fun _ ht h _ => ht.setSession h _ (SessionRec.counted_isOpen _)) _ stalls).of_touches (State.countMonitor_touches _)
  unfold State.housekeepingPeriod
  split
  · refine State.takeAll_holds (EveryRecord Q) _ _ (fun t n ht => ht.of_touches (t.setChoices_touches n)) (fun t ht x _ => ?_) _
      timers
    cases x with
    | expiry h => exact ht.endSession law h .silence
    | declaration => exact ht.declare law
  · exact hs

/-! ## Steps -/

theorem EveryRecord.served {h : HostId} (hs : EveryRecord Q s) (hst : Served h s t) : EveryRecord Q t := by
  cases hst with
  | stands => exact hs
  | opened limit watch => exact hs.replaced h ((s.session h).opened limit watch) .reset (law.fresh true)
  | closed => exact hs.endSession law h .close
  | portCleared u hu =>
    have kept : EveryRecord Q u := by
      rcases hu with hu | ⟨_, hu⟩
      · exact hu ▸ hs
      · exact hu ▸ hs.endSession law h .portReset
    exact kept.of_touches (u.setPort_touches h _)
  | noticesRead n ho => exact hs.putNotices law ho (.read n)
  | mapsSet urgency mask ho => exact hs.putNotices law ho (.mapped urgency mask)
  | acknowledged named ho => exact hs.putNotices law ho (.acknowledged named)
  | holdTaken => exact hs.of_touches (s.setTb_touches _)
  | holdReleased => exact (hs.of_touches (s.setTb_touches _)).discardOnRelease law h
  | started f => exact hs.startTimebase law f
  | stopCancelled => exact (hs.of_touches (s.setTb_touches _)).tellMode law _ _
  | stoppedIdle => exact (hs.of_touches (s.setTb_touches _)).tellMode law _ _
  | stoppedNow => exact hs.stopNow law
  | tbSet => exact hs.of_touches (s.setTb_touches _)
  | lengthStaged => exact (hs.of_touches (s.setTb_touches _)).removeEntries law _ _
  | lengthApplied => exact ((hs.of_touches (s.setTb_touches _)).removeEntries law _ _).tellTimebase law _ _ _
  | scheduled o t handle _ _ _ _ ht => exact hs.of_touches (s.insert_joined_touches ht)
  | cancelled e => exact hs.of_touches (s.leave_touches e)
  | groupCancelled => exact hs.of_touches (s.removeQuietly_touches _)
  | claimGranted l => exact (hs.of_touches (s.setClaim_touches l _)).of_touches (State.grantOutput_touches _ l _)
  | claimJoined l => exact hs.of_touches (s.setClaim_touches l _)
  | claimQueued l => exact hs.of_touches (s.setClaim_touches l _)
  | released l => exact hs.releaseHolding law h l
  | placeWithdrawn l => exact hs.withdrawPlace law h l
  | outputChanged l => exact hs.of_touches (s.setLine_touches l _)
  | channelSetUp c => exact hs.of_touches (s.setChannel_touches c _)
  | subscribed c => exact hs.of_touches (s.setChannel_touches c _)
  | unsubscribed c => exact ((hs.of_touches (s.setChannel_touches c _)).removeEntries law _ _).removeReflexes law _ _
  | rearmed c =>
    unfold State.rearm
    split
    · exact hs
    · exact hs.of_touches (s.setChannel_touches c _)
  | reflexSet c => exact hs.of_touches (s.setReflex_touches c _)
  | reflexCleared c => exact hs.of_touches (s.setReflex_touches c _)

theorem EveryRecord.answerBadCrc (hs : EveryRecord Q s) (p : HostId) (tag : Byte) : EveryRecord Q (s.answerBadCrc p tag) :=
  ((hs.of_touches (s.countFrameError_touches p)).flagFrameError law p).of_touches (State.placeReply_touches _ p _ _ _)

theorem EveryRecord.effect (hs : EveryRecord Q s) (hst : Effect s t) : EveryRecord Q t := by
  cases hst with
  | nothing => exact hs
  | request p row block hb =>
    refine s.takeRequest_holds p row block hs (fun tag hs => ?_) (fun hs => hs.arrived p)
      (fun u tag st hu => hu.of_touches (u.placeReply_touches p tag st [])) (fun payload tag ho ha => ?_)
    · exact (hs.of_touches (s.endTransaction_touches p)).answerBadCrc law p tag
    · exact (ha.served law (hb.served p payload _ ho)).of_touches (State.placeReply_touches _ p _ _ _)
  | unknown p =>
    unfold State.takeUnknown
    split
    · exact hs
    · split
      · exact hs
      · split
        · rw [s.arrived_eq p]
          exact (hs.arrived p).of_touches (State.placeReply_touches _ p _ _ _)
        · exact (hs.of_touches (s.endTransaction_touches p)).answerBadCrc law p _
  | selected p => exact hs.of_touches (s.selectPort_touches p)
  | clocked p edge sdi => exact hs.of_touches (s.clockPort_touches p edge sdi)
  | endedWithoutFrame p => exact hs.of_touches (s.endWithoutFrame_touches p)
  | abandoned p => exact hs.of_touches (s.abandon_touches p)
  | silence h => exact hs.endSession law h .silence
  | ticked => exact hs.runTick law
  | cycled => exact hs.refclkCycle law
  | synced => exact hs.syncEdge law
  | absent => exact (hs.of_touches (s.countMonitor_touches)).declareAbsent law
  | present => exact (hs.of_touches (s.countMonitor_touches)).declarePresent law
  | driven c level => exact hs.driveSense law c level
  | captured => exact hs.refclkCycle law
  | reset pins senses =>
    intro k
    have hrec : (s.deviceReset pins senses).noticeRec k = .reset := Quad.get_const _ k
    rw [hrec]
    exact law.fresh _
  | period => exact hs.housekeepingPeriod law

/-- Every step keeps a property of each host's notice record that the changes of chapter 7 keep. -/
theorem EveryRecord.step (hs : EveryRecord Q s) (hst : step s = .next t) : EveryRecord Q t :=
  step_holds (P := EveryRecord Q) (fun _ _ hu => hu) (fun _ _ hu he => hu.effect law he) hs hst

end Walk

/-! ## The attention output (R146) -/

/-- The attention output is what R146 wants. -/
abbrev Settled (r : NoticeRec) (isOpen : Bool) : Prop := r.attention = r.wantsAttention isOpen

theorem settled_law : NoticeLaw Settled where
  change _ _ _ _ := rfl
  flushed _ _ _ := rfl
  fresh o := by cases o <;> rfl

/-- Settles O56: every step settles the records it changes; the pin is the inverted output. -/
theorem stepKeepsAttentionSettled : Obligations.StepKeepsAttentionSettled := by
  intro s t hs hst
  have ht : AttentionSettled t := EveryRecord.step settled_law hs hst
  refine ⟨ht, fun h => ?_⟩
  rw [State.atn, Bool.not_eq_false', ht h]
  cases ho : (t.session h).isOpen with
  | false => simp [NoticeRec.wantsAttention, Open, ho]
  | true => rw [NoticeRec.wantsAttention_open_iff]; exact (and_iff_right ho).symm

end Sys2Proof.Machine
end

section
/-! What every step keeps of the channel records: a property of each record, kept by the changes of chapter 5, is kept by every
step. -/

set_option Elab.async false

namespace Sys2Proof.Machine

open Sys2Proof.Safety

/-! ## What the operations of the sense unit make of a channel -/

/-- The record after a capture, its gate closed if it has one (R113). -/
def ChannelRec.capturedWithGate (r : ChannelRec) (stamp : Time) (edge : EdgeDir) : ChannelRec :=
  { r.captured stamp edge with state := if r.gate then .gated else r.state }

theorem State.closeGate_channel (s : State) (c d : ChannelId) :
    (s.closeGate c).channel d =
      if d = c ∧ (s.channel c).gate = true then { s.channel c with state := .gated } else s.channel d := by
  unfold State.closeGate
  split
  · rw [State.channel_setChannel]
    split <;> rename_i hd
    · rw [if_pos ⟨hd, ‹_›⟩]
    · rw [if_neg fun h => hd h.1]
  · rename_i hg
    rw [if_neg fun h => hg h.2]

/-- A capture changes its own channel's record and no other (R113). -/
theorem State.captureOn_channel (s : State) (c d : ChannelId) (edge : EdgeDir) :
    (s.captureOn c edge).channel d = if d = c then (s.channel c).capturedWithGate s.now edge else s.channel d := by
  let t := ((s.setChannel c ((s.channel c).captured s.now edge)).notifyEach
    (hostsIn ((s.channel c).captured s.now edge).subscribers) s.now
    (.capture c edge ((s.channel c).captured s.now edge).sequence)).triggerReflex c
  have hchannels : t.channels = (s.setChannel c ((s.channel c).captured s.now edge)).channels :=
    ((State.notifyEach_touches _ _ _ _).step (State.triggerReflex_touches _ c)
      (k := { entries := true, notices := true })).channels rfl
  have hbefore (k : ChannelId) : t.channel k = if k = c then (s.channel c).captured s.now edge else s.channel k := by
    rw [State.channel, hchannels]
    exact s.channel_setChannel c k _
  change (t.closeGate c).channel d = _
  rw [t.closeGate_channel, hbefore c, hbefore d, if_pos rfl]
  by_cases hd : d = c
  · subst hd
    generalize s.channel d = r
    cases hg : r.gate <;> simp [ChannelRec.capturedWithGate, ChannelRec.captured, hg]
  · simp [hd]

theorem State.rearm_channel (s : State) (c d : ChannelId) :
    (s.rearm c).channel d =
      if d = c ∧ (s.channel c).state ≠ .idle then { s.channel c with state := .opened, counter := 0 } else s.channel d := by
  unfold State.rearm
  split
  · next hidle => rw [if_neg fun h => h.2 hidle]
  · next hactive =>
    rw [State.channel_setChannel]
    by_cases hd : d = c
    · rw [if_pos hd, if_pos ⟨hd, hactive⟩]
    · rw [if_neg hd, if_neg fun h => hd h.1]

/-! ## The walk -/

/-- The changes of a channel record (chapter 5). -/
inductive ChannelChange (r : ChannelRec) : ChannelRec → Prop where
  | rearmed (hactive : r.state ≠ .idle) : ChannelChange r { r with state := .opened, counter := 0 }
  | captured (stamp : Time) (edge : EdgeDir) (hopen : r.state = .opened) : ChannelChange r (r.capturedWithGate stamp edge)
  | counted (hopen : r.state = .opened) (hroom : r.atPrescale = false) : ChannelChange r { r with counter := r.counter + 1 }
  | settled : ChannelChange r { r with settled := r.pin, filterCount := 0 }
  | driven (level : Level) : ChannelChange r { r with pin := level }
  | sampled (f : Filter) : ChannelChange r (r.sample f)
  | left (h : HostId) : ChannelChange r (r.without h)
  | joined (h : HostId) : ChannelChange r (r.joined h)
  | setUp (e : EdgeSelection) (f : Filter) (prescale : Nat) (g : Bool) : ChannelChange r (r.setUp e f prescale g)

/-- A property of channel records that every change of chapter 5 keeps. -/
structure ChannelLaw (R : ChannelRec → Prop) : Prop where
  change : ∀ r r', R r → ChannelChange r r' → R r'
  reset : ∀ level, R (.reset level)

/-- The property holds of every channel. -/
def EveryChannel (R : ChannelRec → Prop) (s : State) : Prop := ∀ c, R (s.channel c)

section Walk

variable {R : ChannelRec → Prop} (law : ChannelLaw R) {s t : State}

theorem EveryChannel.of_touches {m : Touched} (hs : EveryChannel R s) (h : OnlyTouches m s t)
    (hc : m.channels = false := by rfl) : EveryChannel R t := by
  intro c
  rw [State.channel, h.channels hc]
  exact hs c

include law

theorem EveryChannel.setChannel (hs : EveryChannel R s) (c : ChannelId) {r : ChannelRec} (hr : ChannelChange (s.channel c) r) :
    EveryChannel R (s.setChannel c r) := by
  intro d
  rw [State.channel_setChannel]
  split
  · exact law.change _ _ (hs c) hr
  · exact hs d

theorem EveryChannel.mapChannels (hs : EveryChannel R s) (f : ChannelId → ChannelRec → ChannelRec)
    (hf : ∀ c r, ChannelChange r (f c r) ∨ f c r = r) : EveryChannel R (s.mapChannels f) := by
  intro d
  rw [State.channel_mapChannels]
  rcases hf d (s.channel d) with h | h
  · exact law.change _ _ (hs d) h
  · rw [h]; exact hs d

theorem EveryChannel.rearm (hs : EveryChannel R s) (c : ChannelId) : EveryChannel R (s.rearm c) := by
  intro d
  rw [s.rearm_channel]
  split
  · next h => exact law.change _ _ (hs c) (.rearmed h.2)
  · exact hs d

theorem EveryChannel.conclude (hs : EveryChannel R s) (late : Bool) (e : Entry) : EveryChannel R (s.conclude late e) := by
  have hchannels : (s.conclude late e).channels = (s.rearmBy e.deed).channels := by
    have after : ((s.rearmBy e.deed).afterFiring e).state.channels = (s.rearmBy e.deed).channels :=
      ((s.rearmBy e.deed).afterFiring_same e).channels
    have told (u : State) (h : HostId) (b : NoticeBody) : (u.notify h b).channels = u.channels := (u.notify_same h b).channels
    unfold State.conclude
    dsimp only
    split <;> split <;> simp only [told, after]
  intro c
  rw [State.channel, hchannels]
  unfold State.rearmBy
  split
  · exact hs.rearm law _ c
  · exact hs c

theorem EveryChannel.fireDue (hs : EveryChannel R s) : EveryChannel R s.fireDue :=
  foldl_holds (EveryChannel R) _ _ (fun _ ht e _ => ht.conclude law false e) _ (hs.of_touches (s.applyGroups_touches _))

theorem EveryChannel.overtake (hs : EveryChannel R s) : EveryChannel R s.overtake := by
  rw [s.overtake_eq]
  refine foldl_holds (EveryChannel R) _ _ (fun t ht e _ => ?_) _ (hs.of_touches (s.applyGroups_touches _))
  unfold State.overtakeOne
  split
  · exact ht.conclude law true e
  · exact ht.of_touches (t.expire_touches e)

theorem EveryChannel.takeEdge (hs : EveryChannel R s) (c : ChannelId) (level : Level) : EveryChannel R (s.takeEdge c level) := by
  unfold State.takeEdge
  split
  · next hcounts =>
    have hopen : (s.channel c).state = .opened := by
      simp only [State.countsEdge, Bool.and_eq_true, decide_eq_true_eq] at hcounts
      exact hcounts.1.2
    split
    · intro d
      rw [s.captureOn_channel]
      split
      · exact law.change _ _ (hs c) (.captured _ _ hopen)
      · exact hs d
    · exact hs.setChannel law c (.counted hopen (Bool.eq_false_iff.mpr ‹_›))
  · exact hs

theorem EveryChannel.settleLevel (hs : EveryChannel R s) (c : ChannelId) : EveryChannel R (s.settleLevel c) :=
  (hs.setChannel law c .settled).takeEdge law c _

theorem EveryChannel.driveSense (hs : EveryChannel R s) (c : ChannelId) (level : Level) : EveryChannel R (s.driveSense c level) := by
  unfold State.driveSense
  dsimp only
  split
  · exact (hs.setChannel law c (.driven level)).settleLevel law c
  · exact hs.setChannel law c (.driven level)

theorem EveryChannel.afterWrap (hs : EveryChannel R s) (w : WrapReport) : EveryChannel R (s.afterWrap w) := by
  have newLength : EveryChannel R (s.tellNewLength w.newLength) := by
    unfold State.tellNewLength
    split
    · exact hs
    · exact hs.of_touches (s.tellTimebase_touches _ _ _)
  have lost : EveryChannel R ((s.tellNewLength w.newLength).tellLost w.lost) := by
    unfold State.tellLost
    split
    · exact (newLength.of_touches (State.tellTimebase_touches _ _ _ _)).of_touches (State.alertAll_touches _)
    · exact newLength
  exact ((lost.of_touches (State.claimedLines_touches _ OutputRec.frameReturned)).fireDue law).of_touches
    (State.haltIf_touches _ _)

theorem EveryChannel.tickEffects (hs : EveryChannel R s) (report : Option WrapReport) :
    EveryChannel R (s.tickEffects report) := by
  have counted : EveryChannel R s.countPulses := hs.of_touches (s.claimedLines_touches OutputRec.countDown)
  cases report with
  | none => exact counted.fireDue law
  | some w => exact counted.afterWrap law w

theorem EveryChannel.tick (hs : EveryChannel R s) : EveryChannel R s.tick := by
  have sampled := (hs.of_touches (s.setTb_touches s.tb.ticked)).mapChannels law (fun _ r => r.sample .tick)
    fun _ _ => .inl (.sampled .tick)
  refine State.takeAll_holds (EveryChannel R) _ _ (fun t n ht => ht.of_touches (t.setChoices_touches n)) (fun t ht x _ => ?_) _
    sampled
  cases x with
  | edge c => exact ht.settleLevel law c
  | main => exact ht.tickEffects law _

theorem EveryChannel.refclkCycle (hs : EveryChannel R s) : EveryChannel R s.refclkCycle := by
  have sampled := (hs.of_touches (s.setTb_touches s.tb.cycled)).mapChannels law (fun _ r => r.sample .refclk)
    fun _ _ => .inl (.sampled .refclk)
  refine State.takeAll_holds (EveryChannel R) _ _ (fun t n ht => ht.of_touches (t.setChoices_touches n)) (fun t ht x _ => ?_) _
    sampled
  cases x with
  | edge c => exact ht.settleLevel law c
  | main => exact ht.tick law

theorem EveryChannel.runTick (hs : EveryChannel R s) : EveryChannel R s.runTick := by
  have cycles : ∀ n, ∀ u : State, EveryChannel R u → EveryChannel R (u.refclkCycles n) := by
    intro n
    induction n with
    | zero => exact fun _ hu => hu
    | succ n ih => exact fun u hu => ih _ (hu.refclkCycle law)
  unfold State.runTick
  split
  · exact cycles _ s hs
  · exact hs

theorem EveryChannel.alignedWrap (hs : EveryChannel R s) : EveryChannel R s.alignedWrap :=
  ((hs.overtake law).of_touches (State.setTb_touches _ _)).afterWrap law _

theorem EveryChannel.syncEdge (hs : EveryChannel R s) : EveryChannel R s.syncEdge := by
  unfold State.syncEdge
  split
  · exact hs.of_touches s.syncStart_touches
  · unfold State.takeSyncEdge
    split
    · exact ((hs.of_touches (s.setTb_touches _)).of_touches (State.tellTimebase_touches _ _ _ _)).alignedWrap law
    · exact (hs.of_touches (s.setTb_touches _)).alignedWrap law
    · exact hs.of_touches (s.setTb_touches _)
    · exact (hs.of_touches (s.tellTimebase_touches _ _ _)).alignedWrap law
  · exact hs

theorem EveryChannel.endSubscriptions (hs : EveryChannel R s) (h : HostId) : EveryChannel R (s.endSubscriptions h) := by
  refine hs.mapChannels law _ fun _ r => ?_
  split
  · exact .inl (.left h)
  · exact .inr rfl

theorem EveryChannel.endSession (hs : EveryChannel R s) (h : HostId) (cause : EndCause) :
    EveryChannel R (s.endSession h cause) := by
  have own : EveryChannel R (s.endOwn h cause) :=
    EveryChannel.endSubscriptions law ((((hs.of_touches (s.setSession_touches h _)).of_touches
      (State.setNotice_touches _ h _)).of_touches (State.removeQuietly_touches _ _)).of_touches
      (State.removeReflexes_none_touches _ _)) h
  refine State.takeAll_holds (EveryChannel R) _ _ (fun t n ht => ht.of_touches (t.setChoices_touches n)) (fun t ht x _ => ?_) _
    (own.of_touches (State.endSilently_touches _ h))
  exact ht.of_touches (State.giveEndAnswer_touches h t x)

theorem EveryChannel.housekeepingPeriod (hs : EveryChannel R s) : EveryChannel R s.housekeepingPeriod := by
  have timers : EveryChannel R s.countPeriod := hs.of_touches s.countPeriod_touches
  unfold State.housekeepingPeriod
  split
  · refine State.takeAll_holds (EveryChannel R) _ _ (fun t n ht => ht.of_touches (t.setChoices_touches n)) (fun t ht x _ => ?_) _
      timers
    cases x with
    | expiry h => exact ht.endSession law h .silence
    | declaration => exact ht.of_touches t.declare_touches
  · exact hs

theorem EveryChannel.served {h : HostId} (hs : EveryChannel R s) (hst : Served h s t) : EveryChannel R t := by
  cases hst with
  | stands => exact hs
  | opened limit watch => exact (hs.of_touches (s.setSession_touches h _)).of_touches (State.setNotice_touches _ h _)
  | closed => exact hs.endSession law h .close
  | portCleared u hu =>
    have kept : EveryChannel R u := by
      rcases hu with hu | ⟨_, hu⟩
      · exact hu ▸ hs
      · exact hu ▸ hs.endSession law h .portReset
    exact kept.of_touches (u.setPort_touches h _)
  | noticesRead => exact hs.of_touches (s.putNotices_touches h _)
  | mapsSet => exact hs.of_touches (s.putNotices_touches h _)
  | acknowledged => exact hs.of_touches (s.putNotices_touches h _)
  | holdTaken => exact hs.of_touches (s.setTb_touches _)
  | holdReleased => exact (hs.of_touches (s.setTb_touches _)).of_touches (State.discardOnRelease_touches _ h)
  | started f => exact hs.of_touches (s.startTimebase_touches f)
  | stopCancelled => exact (hs.of_touches (s.setTb_touches _)).of_touches (State.tellMode_touches _ _ _)
  | stoppedIdle => exact (hs.of_touches (s.setTb_touches _)).of_touches (State.tellMode_touches _ _ _)
  | stoppedNow => exact hs.of_touches s.stopNow_touches
  | tbSet => exact hs.of_touches (s.setTb_touches _)
  | lengthStaged => exact (hs.of_touches (s.setTb_touches _)).of_touches (State.evict_touches _ _ _)
  | lengthApplied =>
    exact ((hs.of_touches (s.setTb_touches _)).of_touches (State.evict_touches _ _ _)).of_touches
      (State.tellTimebase_touches _ _ _ _)
  | scheduled o t handle _ _ _ _ ht => exact hs.of_touches (s.insert_joined_touches ht)
  | cancelled e => exact hs.of_touches (s.leave_touches e)
  | groupCancelled => exact hs.of_touches (s.removeQuietly_touches _)
  | claimGranted l => exact (hs.of_touches (s.setClaim_touches l _)).of_touches (State.grantOutput_touches _ l _)
  | claimJoined l => exact hs.of_touches (s.setClaim_touches l _)
  | claimQueued l => exact hs.of_touches (s.setClaim_touches l _)
  | released l => exact hs.of_touches (s.releaseHolding_touches h l)
  | placeWithdrawn l => exact hs.of_touches (s.withdrawPlace_touches h l)
  | outputChanged l => exact hs.of_touches (s.setLine_touches l _)
  | channelSetUp c e f prescale g => exact hs.setChannel law c (.setUp e f prescale g)
  | subscribed c => exact hs.setChannel law c (.joined h)
  | unsubscribed c =>
    exact ((hs.setChannel law c (.left h)).of_touches (State.removeEntries_touches _ _ _)).of_touches
      (State.removeReflexes_touches _ _ _)
  | rearmed c => exact hs.rearm law c
  | reflexSet c => exact hs.of_touches (s.setReflex_touches c _)
  | reflexCleared c => exact hs.of_touches (s.setReflex_touches c _)

theorem EveryChannel.effect (hs : EveryChannel R s) (hst : Effect s t) : EveryChannel R t := by
  cases hst with
  | nothing => exact hs
  | request p row block hb =>
    refine s.takeRequest_holds p row block hs (fun tag hs => ?_) (fun hs => hs.of_touches (s.arrived_touches p))
      (fun u tag st hu => hu.of_touches (u.placeReply_touches p tag st [])) (fun payload tag ho ha => ?_)
    · exact (hs.of_touches (s.endTransaction_touches p)).of_touches (State.answerBadCrc_touches _ p tag)
    · exact (EveryChannel.served law ha (hb.served p payload _ ho)).of_touches (State.placeReply_touches _ p _ _ _)
  | unknown p =>
    unfold State.takeUnknown
    split
    · exact hs
    · split
      · exact hs
      · split
        · rw [s.arrived_eq p]
          exact (hs.of_touches (s.arrived_touches p)).of_touches (State.placeReply_touches _ p _ _ _)
        · exact (hs.of_touches (s.endTransaction_touches p)).of_touches (State.answerBadCrc_touches _ p _)
  | selected p => exact hs.of_touches (s.selectPort_touches p)
  | clocked p edge sdi => exact hs.of_touches (s.clockPort_touches p edge sdi)
  | endedWithoutFrame p => exact hs.of_touches (s.endWithoutFrame_touches p)
  | abandoned p => exact hs.of_touches (s.abandon_touches p)
  | silence h => exact hs.endSession law h .silence
  | ticked => exact hs.runTick law
  | cycled => exact hs.refclkCycle law
  | synced => exact hs.syncEdge law
  | absent => exact (hs.of_touches (s.countMonitor_touches)).of_touches (State.declareAbsent_touches _)
  | present => exact (hs.of_touches (s.countMonitor_touches)).of_touches (State.declarePresent_touches _)
  | driven c level => exact hs.driveSense law c level
  | captured => exact hs.refclkCycle law
  | reset pins senses =>
    intro c
    have hrec : (s.deviceReset pins senses).channel c = .reset (senses.getLsbD c.val) := by
      change (Vector.ofFn fun c : ChannelId => ChannelRec.reset (senses.getLsbD c.val))[c.val] = _
      rw [Vector.getElem_ofFn]
    rw [hrec]
    exact law.reset _
  | period => exact hs.housekeepingPeriod law

/-- Every step keeps a property of the channel records that the changes of chapter 5 keep. -/
theorem EveryChannel.step (hs : EveryChannel R s) (hst : step s = .next t) : EveryChannel R t :=
  step_holds (P := EveryChannel R) (fun _ _ hu => hu) (fun _ _ hu he => EveryChannel.effect law hu he) hs hst

end Walk

/-! ## The counts (R103) -/

/-- The prescale counter and the filter count stand in their ranges. -/
abbrev CountsInRange (r : ChannelRec) : Prop := r.counter ≤ r.prescale ∧ r.filterCount ≤ 2

theorem ChannelRec.sample_counts {r : ChannelRec} (f : Filter) (hr : CountsInRange r) : CountsInRange (r.sample f) := by
  obtain ⟨hcounter, hfilter⟩ := hr
  unfold ChannelRec.sample
  split
  · next h =>
    obtain ⟨hf, hcomplete⟩ := h
    refine ⟨hcounter, ?_⟩
    dsimp only
    split
    · exact Nat.zero_le 2
    · next hne =>
      simp only [ChannelRec.completes, hf, decide_true, Bool.true_and, Bool.and_eq_false_iff, bne_eq_false_iff_eq,
        decide_eq_false_iff_not] at hcomplete
      have := hcomplete.resolve_left hne
      omega
  · exact ⟨hcounter, hfilter⟩

theorem counts_law : ChannelLaw CountsInRange where
  reset _ := ⟨Nat.zero_le _, Nat.zero_le _⟩
  change r r' hr hchange := by
    obtain ⟨hcounter, hfilter⟩ := hr
    cases hchange with
    | rearmed => exact ⟨Nat.zero_le _, hfilter⟩
    | captured => exact ⟨Nat.zero_le _, hfilter⟩
    | counted _ hroom =>
      simp only [ChannelRec.atPrescale, decide_eq_false_iff_not] at hroom
      exact ⟨by dsimp only; omega, hfilter⟩
    | settled => exact ⟨hcounter, Nat.zero_le _⟩
    | driven => exact ⟨hcounter, hfilter⟩
    | sampled f => exact ChannelRec.sample_counts f ⟨hcounter, hfilter⟩
    | left h =>
      unfold ChannelRec.without
      dsimp only
      split
      · exact ⟨Nat.zero_le _, hfilter⟩
      · exact ⟨hcounter, hfilter⟩
    | joined h =>
      unfold ChannelRec.joined
      dsimp only
      split
      · exact ⟨Nat.zero_le _, hfilter⟩
      · exact ⟨hcounter, hfilter⟩
    | setUp => exact ⟨Nat.zero_le _, Nat.zero_le _⟩

end Sys2Proof.Machine
end

section
/-! What every step keeps of the ports and of the counts, and the part in device reset. -/

set_option Elab.async false

namespace Sys2Proof.Machine

open Sys2Proof.Safety

/-! ## The lengths of replies (R170, R182) -/

theorem timeBytes_length (t : Time) : (timeBytes t).length = 5 := rfl

theorem Handle.bytes_length (h : Handle) : h.bytes.length = 2 := rfl

theorem NoticeBody.fieldBytes_length (b : NoticeBody) : b.fieldBytes.length = 5 := by
  cases b with
  | fired _ _ _ _ _ _ _ origin => cases origin <;> rfl
  | _ => rfl

/-- A notice is carried in twelve bytes (R187). -/
theorem Notice.bytes_length (n : Notice) : n.bytes.length = 12 := by
  simp [Notice.bytes, timeBytes_length, NoticeBody.fieldBytes_length]

theorem flatMap_bytes_length (ns : List Notice) : (ns.flatMap Notice.bytes).length = 12 * ns.length := by
  induction ns with
  | nil => rfl
  | cons n ns ih =>
    rw [List.flatMap_cons, List.length_append, Notice.bytes_length, ih, List.length_cons]
    omega

theorem optionalItem_length (len : Nat) (x : Option (List Byte)) (h : ∀ bs ∈ x, bs.length = len) :
    (optionalItem len x).length = len + 1 := by
  cases x with
  | none => simp [optionalItem]
  | some bs => simp [optionalItem, h bs rfl]

theorem placeBytes_length (waiting : List Place) : (placeBytes waiting).length = 6 := by
  match waiting with
  | [] => rfl
  | [_] => rfl
  | [_, _] => rfl
  | _ :: _ :: _ :: _ => rfl

theorem Entry.descriptor_length (e : Entry) (rank : Nat) : (e.descriptor rank).length = 18 := by
  cases hr : e.recurrence <;> simp [Entry.descriptor, Handle.bytes_length, timeBytes_length, bytes2, hr]

theorem State.lineStatus_length (s : State) (l : LineId) : (s.lineStatus l).length = 20 := by
  have pulse : (optionalItem 2 ((s.line l).pulse.map bytes2)).length = 3 :=
    optionalItem_length 2 _ fun bs hbs => by
      obtain ⟨n, _, rfl⟩ := Option.map_eq_some_iff.mp hbs
      rfl
  simp only [State.lineStatus, List.length_append, List.length_cons, List.length_nil, placeBytes_length, pulse]

theorem State.senseStatus_length (s : State) (c : ChannelId) : (s.senseStatus c).length = 22 := by
  have last : (optionalItem 8 ((s.channel c).last.map LastCapture.bytes)).length = 9 :=
    optionalItem_length 8 _ fun bs hbs => by
      obtain ⟨n, _, rfl⟩ := Option.map_eq_some_iff.mp hbs
      rfl
  have reflex : (optionalItem 1 ((s.reflex c).map fun x => [HostId.code x.owner])).length = 2 :=
    optionalItem_length 1 _ fun bs hbs => by
      obtain ⟨n, _, rfl⟩ := Option.map_eq_some_iff.mp hbs
      rfl
  simp only [State.senseStatus, ChannelRec.configBytes, bytes2, List.length_append, List.length_cons, List.length_nil, last, reflex]

theorem Timebase.statusBytes_length (t : Timebase) : t.statusBytes.length = 26 := by
  have staged : (optionalItem 3 (t.staged.map bytes3)).length = 4 :=
    optionalItem_length 3 _ fun bs hbs => by
      obtain ⟨n, _, rfl⟩ := Option.map_eq_some_iff.mp hbs
      rfl
  simp only [Timebase.statusBytes, bytes2, bytes3, timeBytes_length, List.length_append, List.length_cons, List.length_nil, staged]

/-- A block's reply is within the largest payload. -/
def Answer.Fits (a : Answer) : Prop := a.payload.length ≤ Config.maxPayload

theorem State.refuse_fits (s : State) (st : Status) : (s.refuse st).Fits := Nat.zero_le _

theorem State.accept_fits (s : State) {bs : List Byte} (h : bs.length ≤ 48) : (s.accept bs).Fits := h

theorem readNoticesBlock_fits (h : HostId) (payload : List Byte) (s : State) : (readNoticesBlock h payload s).Fits := by
  unfold readNoticesBlock
  split
  · split
    · exact s.refuse_fits _
    · next n hn =>
      refine State.accept_fits _ ?_
      rw [flatMap_bytes_length, NoticeRec.firstN, List.length_take]
      omega
  · exact s.refuse_fits _

theorem startOutcome_fits (s : State) (f : StartFields) : (s.startOutcome f).Fits := by
  unfold State.startOutcome
  split
  · split
    · exact State.accept_fits _ (Nat.zero_le _)
    · exact s.refuse_fits _
  · split
    · exact State.accept_fits _ (Nat.zero_le _)
    · exact s.refuse_fits _
  · exact s.refuse_fits _
  · split
    · exact State.accept_fits _ (Nat.zero_le _)
    · exact s.refuse_fits _

theorem stopOutcome_fits (s : State) (atWrap : Bool) : (s.stopOutcome atWrap).Fits := by
  unfold State.stopOutcome
  split
  · exact s.refuse_fits _
  · exact State.accept_fits _ (Nat.zero_le _)
  · exact State.accept_fits _ (Nat.zero_le _)
  · split
    · exact State.accept_fits _ (Nat.zero_le _)
    · exact State.accept_fits _ (Nat.zero_le _)

theorem setLength_fits (s : State) (n : Nat) : (s.setLength n).Fits := by
  unfold State.setLength
  split
  · exact Nat.le_of_ble_eq_true rfl
  · split
    · exact s.refuse_fits _
    · exact State.accept_fits _ (Nat.zero_le _)

theorem queueClaim_fits (s : State) (h : HostId) (l : LineId) (ask : Ask) (wait : Bool) (settings : LineSettings) :
    (s.queueClaim h l ask wait settings).Fits := by
  unfold State.queueClaim
  dsimp only
  split <;> exact Nat.le_of_ble_eq_true rfl

theorem claimBlock_fits (h : HostId) (payload : List Byte) (s : State) : (claimBlock h payload s).Fits := by
  unfold claimBlock
  split
  · exact s.refuse_fits _
  · dsimp only
    split
    · exact Nat.le_of_ble_eq_true rfl
    · split
      · exact Nat.le_of_ble_eq_true rfl
      · split
        · exact Nat.le_of_ble_eq_true rfl
        · exact Nat.le_of_ble_eq_true rfl
        · exact queueClaim_fits s h _ _ _ _

/-- A refused REFLEX_SET carries at most the owner of the reflex that stands (R123). -/
theorem reflexFails_items {s : State} {c : ChannelId} {r : Reflex} {st : Status} {items : List Byte}
    (h : s.reflexFails c r = some (st, items)) : items.length ≤ 1 := by
  unfold State.reflexFails at h
  dsimp only at h
  repeat' split at h
  all_goals cases h
  all_goals exact Nat.le_of_ble_eq_true rfl

/-- Every block's reply fits a frame: the notices and the descriptors by their lengths, the others by their few items. -/
theorem IsRequest.fits {row : RequestRow} {block : Block} (hb : IsRequest row block) (h : HostId) (payload : List Byte)
    (s : State) : (block h payload s).Fits := by
  cases hb with
  | readNotices => exact readNoticesBlock_fits h payload s
  | claim => exact claimBlock_fits h payload s
  | tbStatus => exact State.accept_fits _ (by rw [Timebase.statusBytes_length]; omega)
  | tbStart =>
    unfold tbStartBlock
    split
    · split
      · split
        · exact startOutcome_fits s _
        · exact s.refuse_fits _
      · exact s.refuse_fits _
    · exact s.refuse_fits _
  | tbStop =>
    unfold tbStopBlock
    split
    · split
      · split
        · exact stopOutcome_fits s _
        · exact s.refuse_fits _
      · exact s.refuse_fits _
    · exact s.refuse_fits _
  | tbSetFrame =>
    unfold tbSetFrameBlock
    split
    · split
      · exact s.refuse_fits _
      · split
        · exact setLength_fits s _
        · exact s.refuse_fits _
    · exact s.refuse_fits _
  | queryEntry =>
    unfold queryEntryBlock
    split
    · split
      · exact s.refuse_fits _
      · split
        · exact s.refuse_fits _
        · exact State.accept_fits _ (by rw [Entry.descriptor_length]; omega)
    · exact s.refuse_fits _
  | lineStatus =>
    unfold lineStatusBlock
    split
    · split
      · exact State.accept_fits _ (by rw [State.lineStatus_length]; omega)
      · exact s.refuse_fits _
    · exact s.refuse_fits _
  | senseStatus =>
    unfold senseStatusBlock
    split
    · split
      · exact s.refuse_fits _
      · exact State.accept_fits _ (by rw [State.senseStatus_length]; omega)
    · exact s.refuse_fits _
  | scheduleStatus =>
    refine State.accept_fits _ ?_
    rw [List.length_append, optionalItem_length 5 _ fun bs hbs => by
      obtain ⟨t, _, rfl⟩ := Option.map_eq_some_iff.mp hbs
      rfl]
    exact Nat.le_of_ble_eq_true rfl
  | reflexSet =>
    unfold reflexSetBlock
    split
    · exact s.refuse_fits _
    · split
      · exact Nat.le_trans (reflexFails_items ‹_›) (Nat.le_of_ble_eq_true rfl)
      · exact Nat.le_of_ble_eq_true rfl
  | nop | closing | portReset | hostStatus | ident | readTime => exact Nat.le_of_ble_eq_true rfl
  | opening | setNoticeMaps | ackConditions | tbHold | tbRelease | tbSetSync | tbSetPrescale | schedule | cancel | cancelGroup
    | release | lineSetup | outputHold | outputForce | outputFollow | senseSetup | subscribe | unsubscribe | senseRearm
    | reflexClear =>
    simp only [openBlock, setNoticeMapsBlock, ackConditionsBlock, tbHoldBlock, tbReleaseBlock, tbSetSyncBlock,
      tbSetPrescaleBlock, scheduleBlock, cancelBlock, cancelGroupBlock, releaseBlock, lineSetupBlock, outputHoldBlock,
      outputForceBlock, outputFollowBlock, senseSetupBlock, subscribeBlock, unsubscribeBlock, senseRearmBlock, reflexClearBlock]
    repeat' split
    all_goals exact Nat.le_of_ble_eq_true rfl

/-! ## The ports -/

/-- A port's record is consistent and its frame errors saturate (R165, R166, R177, R180). -/
structure PortSound (r : PortRec) : Prop where
  errors : r.frameErrors ≤ Config.saturation
  unread : r.unread = true → r.slot.isSome = true
  stall : r.stall ≤ Config.stallLimit
  bits : r.bits.length < 8
  slot : ∀ x ∈ r.slot, x.payload.length ≤ Config.maxPayload

/-- Every port's record is. -/
def PortsSound (s : State) : Prop := ∀ p, PortSound (s.port p)

theorem PortsSound.of_touches {s t : State} {m : Touched} (hs : PortsSound s) (h : OnlyTouches m s t)
    (hp : m.ports = false := by rfl) : PortsSound t := by
  intro p
  rw [State.port, h.ports hp]
  exact hs p

theorem PortsSound.setPort {s : State} (hs : PortsSound s) (p : HostId) {r : PortRec} (hr : PortSound r) :
    PortsSound (s.setPort p r) := by
  intro q
  rw [State.port_setPort]
  split
  · exact hr
  · exact hs q

/-- A transaction's state, its bytes and its read-out do not bear on soundness. -/
theorem PortSound.readOut {r : PortRec} (hr : PortSound r) (x : Transaction) : PortSound { r.readOut with transaction := x } where
  errors := hr.errors
  unread hu := hr.unread (Bool.and_eq_true_iff.mp hu).1
  stall := hr.stall
  bits := hr.bits
  slot := hr.slot

theorem PortsSound.endTransaction {s : State} (hs : PortsSound s) (p : HostId) : PortsSound (s.endTransaction p) :=
  hs.setPort p ((hs p).readOut .idle)

theorem PortsSound.countFrameError {s : State} (hs : PortsSound s) (p : HostId) : PortsSound (s.countFrameError p) :=
  hs.setPort p { hs p with errors := Nat.min_le_right _ _ }

theorem PortsSound.placeReply {s : State} (hs : PortsSound s) (p : HostId) (tag : Byte) (st : Status) {bs : List Byte}
    (hbs : bs.length ≤ Config.maxPayload) : PortsSound (s.placeReply p tag st bs) :=
  hs.setPort p { hs p with unread := fun _ => rfl, slot := fun x hx => by cases hx; exact hbs }

theorem PortsSound.answerBadCrc {s : State} (hs : PortsSound s) (p : HostId) (tag : Byte) : PortsSound (s.answerBadCrc p tag) :=
  ((hs.countFrameError p).of_touches (State.flagFrameError_touches _ p)).placeReply p tag _ (Nat.zero_le _)

theorem PortsSound.arrived {s : State} (hs : PortsSound s) (p : HostId) : PortsSound (Safety.arrived s p) := by
  rw [← s.arrived_eq p]
  exact (hs.endTransaction p).of_touches (State.setSession_touches _ p _)

theorem PortsSound.abandon {s : State} (hs : PortsSound s) (p : HostId) : PortsSound (s.abandon p) := by
  have abandoned : PortsSound (s.setPort p
      { (s.port p).readOut with transaction := .abandoned, assembly := [], bits := [], stall := Config.stallLimit }) :=
    hs.setPort p { (hs p).readOut .abandoned with stall := Nat.le_refl _, bits := Nat.zero_lt_succ _ }
  unfold State.abandon
  split
  · dsimp only
    split
    · exact abandoned
    · exact abandoned.countFrameError p
  · exact hs

theorem PortSound.sampleBit {r : PortRec} (hr : PortSound r) (sdi : Level) : PortSound ({ r with stall := 0 }.sampleBit sdi) := by
  unfold PortRec.sampleBit
  split
  · next hroom =>
    exact { hr with stall := Nat.zero_le _, bits := by simp only [List.length_append, List.length_singleton]; dsimp only at hroom; omega }
  · exact { hr with stall := Nat.zero_le _, bits := Nat.zero_lt_succ _ }

theorem PortsSound.housekeepingPeriod {s : State} (hs : PortsSound s) : PortsSound s.housekeepingPeriod := by
  have stalls : PortsSound (allHosts.foldl State.stallCheck s) := by
    refine foldl_holds PortsSound _ _ (fun t ht p _ => ?_) s hs
    unfold State.stallCheck
    split
    · split
      · exact ht.abandon p
      · next hfurther =>
        refine ht.setPort p { ht p with stall := ?_ }
        simp only [State.stallsNext, decide_eq_true_eq, not_le] at hfurther
        exact Nat.le_of_lt hfurther
    · exact ht
  have timers : PortsSound s.countPeriod :=
    (stalls.of_touches (State.countTimers_touches _)).of_touches (State.countMonitor_touches _)
  unfold State.housekeepingPeriod
  split
  · refine State.takeAll_holds PortsSound _ _ (fun t n ht => ht.of_touches (t.setChoices_touches n)) (fun t ht x _ => ?_) _ timers
    cases x with
    | expiry h => exact ht.of_touches (t.endSession_touches h .silence)
    | declaration => exact ht.of_touches t.declare_touches
  · exact hs

/-- A request's block leaves the ports alone, but for PORT_RESET's own part (R179). -/
theorem PortsSound.served {s t : State} {h : HostId} (hs : PortsSound s) (hst : Served h s t) : PortsSound t := by
  cases hst with
  | stands => exact hs
  | opened limit watch => exact (hs.of_touches (s.setSession_touches h _)).of_touches (State.setNotice_touches _ h _)
  | closed => exact hs.of_touches (s.endSession_touches h .close)
  | portCleared u hu =>
    have kept : PortsSound u := by
      rcases hu with hu | ⟨_, hu⟩
      · exact hu ▸ hs
      · exact hu ▸ hs.of_touches (s.endSession_touches h .portReset)
    exact kept.setPort h { kept h with errors := Nat.zero_le _, unread := nofun, slot := nofun }
  | noticesRead | mapsSet | acknowledged => exact hs.of_touches (s.putNotices_touches h _)
  | holdTaken | tbSet => exact hs.of_touches (s.setTb_touches _)
  | holdReleased => exact (hs.of_touches (s.setTb_touches _)).of_touches (State.discardOnRelease_touches _ h)
  | started f => exact hs.of_touches (s.startTimebase_touches f)
  | stopCancelled | stoppedIdle => exact (hs.of_touches (s.setTb_touches _)).of_touches (State.tellMode_touches _ _ _)
  | stoppedNow => exact hs.of_touches s.stopNow_touches
  | lengthStaged => exact (hs.of_touches (s.setTb_touches _)).of_touches (State.evict_touches _ _ _)
  | lengthApplied =>
    exact ((hs.of_touches (s.setTb_touches _)).of_touches (State.evict_touches _ _ _)).of_touches
      (State.tellTimebase_touches _ _ _ _)
  | scheduled o t handle _ _ _ _ ht => exact hs.of_touches (s.insert_joined_touches ht)
  | cancelled e => exact hs.of_touches (s.leave_touches e)
  | groupCancelled => exact hs.of_touches (s.removeQuietly_touches _)
  | claimGranted l => exact (hs.of_touches (s.setClaim_touches l _)).of_touches (State.grantOutput_touches _ l _)
  | claimJoined l => exact hs.of_touches (s.setClaim_touches l _)
  | claimQueued l => exact hs.of_touches (s.setClaim_touches l _)
  | released l => exact hs.of_touches (s.releaseHolding_touches h l)
  | placeWithdrawn l => exact hs.of_touches (s.withdrawPlace_touches h l)
  | outputChanged l => exact hs.of_touches (s.setLine_touches l _)
  | channelSetUp c => exact hs.of_touches (s.setChannel_touches c _)
  | subscribed c => exact hs.of_touches (s.setChannel_touches c _)
  | unsubscribed c =>
    exact ((hs.of_touches (s.setChannel_touches c _)).of_touches (State.removeEntries_touches _ _ _)).of_touches
      (State.removeReflexes_touches _ _ _)
  | rearmed c => exact hs.of_touches (s.rearm_touches c)
  | reflexSet c => exact hs.of_touches (s.setReflex_touches c _)
  | reflexCleared c => exact hs.of_touches (s.setReflex_touches c _)

theorem PortsSound.effect {s t : State} (hs : PortsSound s) (hst : Effect s t) : PortsSound t := by
  cases hst with
  | nothing => exact hs
  | request p row block hb =>
    refine s.takeRequest_holds p row block hs (fun tag hs => (hs.endTransaction p).answerBadCrc p tag) (fun hs => hs.arrived p)
      (fun u tag st hu => hu.placeReply p tag st (Nat.zero_le _)) (fun payload tag ho ha => ?_)
    exact (PortsSound.served ha (hb.served p payload _ ho)).placeReply p _ _ (hb.fits p payload _)
  | unknown p =>
    unfold State.takeUnknown
    split
    · exact hs
    · split
      · exact hs
      · split
        · rw [s.arrived_eq p]
          exact (hs.arrived p).placeReply p _ _ (Nat.zero_le _)
        · exact (hs.endTransaction p).answerBadCrc p _
  | selected p =>
    unfold State.selectPort
    split
    · split
      · exact hs.setPort p { hs p with stall := Nat.zero_le _, bits := Nat.zero_lt_succ _ }
      · exact hs
    · exact hs
  | clocked p edge sdi =>
    unfold State.clockPort
    split
    · refine hs.setPort p ?_
      cases edge with
      | rising => exact (hs p).sampleBit sdi
      | falling => exact { hs p with stall := Nat.zero_le _ }
    · exact hs
  | endedWithoutFrame p =>
    unfold State.endWithoutFrame
    split
    · exact hs
    · exact hs.setPort p { hs p with }
    · split
      · exact hs
      · exact hs.endTransaction p
      · exact (hs.endTransaction p).countFrameError p
      · exact (hs.endTransaction p).countFrameError p
  | abandoned p => exact hs.abandon p
  | silence h => exact hs.of_touches (s.endSession_touches h .silence)
  | ticked => exact hs.of_touches s.runTick_touches
  | cycled | captured => exact hs.of_touches s.refclkCycle_touches
  | synced => exact hs.of_touches s.syncEdge_touches
  | absent => exact (hs.of_touches (s.countMonitor_touches)).of_touches (State.declareAbsent_touches _)
  | present => exact (hs.of_touches (s.countMonitor_touches)).of_touches (State.declarePresent_touches _)
  | driven c level => exact hs.of_touches (s.driveSense_touches c level)
  | reset pins senses =>
    intro p
    have hrec : ∃ low, (s.deviceReset pins senses).port p = .reset low := by cases p <;> exact ⟨_, rfl⟩
    obtain ⟨low, hlow⟩ := hrec
    rw [hlow]
    exact ⟨Nat.zero_le _, nofun, Nat.zero_le _, Nat.zero_lt_succ _, nofun⟩
  | period => exact hs.housekeepingPeriod

theorem portsSound_iff (s : State) :
    PortsSound s ↔ (∀ p, (s.port p).frameErrors ≤ Config.saturation) ∧ PortsConsistent s :=
  ⟨fun h => ⟨fun p => (h p).errors, fun p => ⟨(h p).unread, (h p).stall, (h p).bits, (h p).slot⟩⟩,
    fun ⟨he, hp⟩ p => ⟨he p, (hp p).1, (hp p).2.1, (hp p).2.2.1, (hp p).2.2.2⟩⟩

/-! ## The notice queues and the lost counts -/

/-- The queue has room for 32 notices, and the lost count saturates (R133). -/
abbrev QueueSound (r : NoticeRec) (_isOpen : Bool) : Prop :=
  r.held.length ≤ Config.queueCapacity ∧ r.lostCount ≤ Config.saturation

theorem NoticeRec.arrive_lostCount (r : NoticeRec) (stamp : Time) (body : NoticeBody) (hr : r.lostCount ≤ Config.saturation) :
    (r.arrive stamp body).lostCount ≤ Config.saturation := by
  rw [r.arrive_eq_place]
  by_cases hroom : r.numbered.held.length < Config.queueCapacity
  · rw [NoticeRec.place_joins _ hroom, NoticeRec.join_eq]
    exact hr
  · obtain ⟨urgent, routine, hplace⟩ := NoticeRec.place_loses (r.stampOf stamp body) hroom
    rw [hplace]
    exact Nat.min_le_right _ _

theorem queue_law : NoticeLaw QueueSound where
  flushed _ _ _ := ⟨Nat.zero_le _, Nat.zero_le _⟩
  fresh _ := ⟨Nat.zero_le _, Nat.zero_le _⟩
  change r r' hr hchange := by
    obtain ⟨hroom, hlost⟩ := hr
    cases hchange with
    | arrived stamp body => exact ⟨r.arrive_room stamp body hroom, r.arrive_lostCount stamp body hlost⟩
    | alerted | frameError | mapped => exact ⟨hroom, hlost⟩
    | read n =>
      refine ⟨?_, hlost⟩
      simp only [NoticeRec.held, NoticeRec.dropN, List.length_append, List.length_drop] at hroom ⊢
      omega
    | acknowledged named =>
      refine ⟨hroom, ?_⟩
      simp only [NoticeRec.acknowledge]
      split
      · exact Nat.zero_le _
      · exact hlost

/-! ## The queue and RESET_N -/

/-- Every record. -/
abbrev Touched.all : Touched := ⟨true, true, true, true, true, true, true, true, true, true, true⟩

theorem Touched.within_all (m : Touched) : m.within .all = true := by simp [Touched.within]

theorem OnlyTouches.any {m : Touched} {s t : State} (h : OnlyTouches m s t) : OnlyTouches .all s t := h.mono m.within_all

/-- A request's block leaves the queue and RESET_N alone. -/
theorem Served.touches {s t : State} {h : HostId} (hst : Served h s t) : OnlyTouches .all s t := by
  cases hst with
  | stands => exact .refl _ s
  | opened => exact (s.setSession_touches h _).any.trans (State.setNotice_touches _ h _).any
  | closed => exact (s.endSession_touches h .close).any
  | portCleared u hu =>
    have kept : OnlyTouches .all s u := by
      rcases hu with hu | ⟨_, hu⟩
      · rw [hu]; exact .refl _ s
      · exact hu ▸ (s.endSession_touches h .portReset).any
    exact kept.trans (u.setPort_touches h _).any
  | noticesRead | mapsSet | acknowledged => exact (s.putNotices_touches h _).any
  | holdTaken | tbSet => exact (s.setTb_touches _).any
  | holdReleased => exact (s.setTb_touches _).any.trans (State.discardOnRelease_touches _ h).any
  | started f => exact (s.startTimebase_touches f).any
  | stopCancelled | stoppedIdle => exact (s.setTb_touches _).any.trans (State.tellMode_touches _ _ _).any
  | stoppedNow => exact s.stopNow_touches.any
  | lengthStaged => exact (s.setTb_touches _).any.trans (State.evict_touches _ _ _).any
  | lengthApplied =>
    exact ((s.setTb_touches _).any.trans (State.evict_touches _ _ _).any).trans (State.tellTimebase_touches _ _ _ _).any
  | scheduled o t handle _ _ _ _ ht => exact (s.insert_joined_touches ht).any
  | cancelled e => exact (s.leave_touches e).any
  | groupCancelled => exact (s.removeQuietly_touches _).any
  | claimGranted l => exact (s.setClaim_touches l _).any.trans (State.grantOutput_touches _ l _).any
  | claimJoined l | claimQueued l => exact (s.setClaim_touches l _).any
  | released l => exact (s.releaseHolding_touches h l).any
  | placeWithdrawn l => exact (s.withdrawPlace_touches h l).any
  | outputChanged l => exact (s.setLine_touches l _).any
  | channelSetUp c | subscribed c => exact (s.setChannel_touches c _).any
  | unsubscribed c =>
    exact ((s.setChannel_touches c _).any.trans (State.removeEntries_touches _ _ _).any).trans
      (State.removeReflexes_touches _ _ _).any
  | rearmed c => exact (s.rearm_touches c).any
  | reflexSet c | reflexCleared c => exact (s.setReflex_touches c _).any

theorem State.takeHousekeeping_touches (s : State) (x : HousekeepingEvent) : OnlyTouches .all s (s.takeHousekeeping x) := by
  cases x with
  | declaration => exact s.declare_touches.any
  | expiry h => exact (s.endSession_touches h .silence).any

theorem State.housekeepingPeriod_touches (s : State) : OnlyTouches .all s s.housekeepingPeriod := by
  unfold State.housekeepingPeriod
  split
  · exact s.countPeriod_touches.any.trans (.takeAll rfl (fun t x _ => t.takeHousekeeping_touches x) _)
  · exact .refl _ s

/-- No effect but a device reset moves RESET_N, and none touches the queue. -/
theorem Effect.touches {s t : State} (h : Effect s t) : OnlyTouches .all s t ∨ ∃ pins senses, t = s.deviceReset pins senses := by
  cases h with
  | reset pins senses => exact .inr ⟨pins, senses, rfl⟩
  | nothing => exact .inl (.refl _ s)
  | request p row block hb =>
    refine .inl (s.takeRequest_holds (P := OnlyTouches .all s) p row block (.refl _ s) (fun tag _ => ?_)
      (fun _ => (s.arrived_touches p).any) (fun u tag st hu => hu.trans (u.placeReply_touches p tag st []).any)
      (fun payload tag ho ha => ?_))
    · exact (s.endTransaction_touches p).any.trans (State.answerBadCrc_touches _ p tag).any
    · exact (ha.trans (hb.served p payload _ ho).touches).trans (State.placeReply_touches _ p _ _ _).any
  | unknown p =>
    left
    unfold State.takeUnknown
    split
    · exact .refl _ s
    · split
      · exact .refl _ s
      · split
        · rw [s.arrived_eq p]
          exact (s.arrived_touches p).any.trans (State.placeReply_touches _ p _ _ _).any
        · exact (s.endTransaction_touches p).any.trans (State.answerBadCrc_touches _ p _).any
  | selected p => exact .inl (s.selectPort_touches p).any
  | clocked p edge sdi => exact .inl (s.clockPort_touches p edge sdi).any
  | endedWithoutFrame p => exact .inl (s.endWithoutFrame_touches p).any
  | abandoned p => exact .inl (s.abandon_touches p).any
  | silence h => exact .inl (s.endSession_touches h .silence).any
  | ticked => exact .inl s.runTick_touches.any
  | cycled | captured => exact .inl s.refclkCycle_touches.any
  | synced => exact .inl s.syncEdge_touches.any
  | absent => exact .inl (s.countMonitor_touches.any.trans (State.declareAbsent_touches _).any)
  | present => exact .inl (s.countMonitor_touches.any.trans (State.declarePresent_touches _).any)
  | driven c level => exact .inl (s.driveSense_touches c level).any
  | period => exact .inl s.housekeepingPeriod_touches

end Sys2Proof.Machine
end

section
/-! The part in device reset, and O57: the queues, the counts and the ports stay in range. -/

set_option Elab.async false

namespace Sys2Proof.Machine

open Sys2Proof.Safety

/-! ## Device reset -/

/-- The records at their reset values (section 0.7). -/
structure AtReset (s : State) : Prop where
  tb : s.tb = .reset
  entries : s.entries = []
  lines : ∀ l : LineId, s.line l = .cleared ∧ s.claim l = .cleared
  channels : ∀ c : ChannelId, (s.channel c).state = .idle ∧ s.reflex c = none
  hosts : ∀ h, s.session h = .reset ∧ s.noticeRec h = .reset ∧ (s.port h).transaction ≠ .shifting

theorem resetIsHeld_iff (s : State) : ResetIsHeld s ↔ (s.resetN = false → AtReset s) :=
  ⟨fun h hr => ⟨(h hr).1, (h hr).2.1, (h hr).2.2.1, (h hr).2.2.2.1, (h hr).2.2.2.2⟩,
    fun h hr => ⟨(h hr).tb, (h hr).entries, (h hr).lines, (h hr).channels, (h hr).hosts⟩⟩

section Lookups

variable (s : State) (pins : ResetPins) (senses : BitVec 8)

theorem State.deviceReset_line (l : LineId) : (s.deviceReset pins senses).line l = .cleared := by
  change (Vector.replicate 12 OutputRec.cleared)[l.val] = _
  rw [Vector.getElem_replicate]

theorem State.deviceReset_claim (l : LineId) : (s.deviceReset pins senses).claim l = .cleared := by
  change (Vector.replicate 12 ClaimRec.cleared)[l.val] = _
  rw [Vector.getElem_replicate]

theorem State.deviceReset_channel (c : ChannelId) : (s.deviceReset pins senses).channel c = .reset (senses.getLsbD c.val) := by
  change (Vector.ofFn fun c : ChannelId => ChannelRec.reset (senses.getLsbD c.val))[c.val] = _
  rw [Vector.getElem_ofFn]

theorem State.deviceReset_reflex (c : ChannelId) : (s.deviceReset pins senses).reflex c = none := by
  change (Vector.replicate 8 none)[c.val] = _
  rw [Vector.getElem_replicate]

theorem State.deviceReset_use (i : SlotId) : (s.deviceReset pins senses).uses[i] = 0 := by
  change (Vector.replicate 96 (0 : BitVec 9))[i.val] = _
  rw [Vector.getElem_replicate]

theorem State.deviceReset_session (h : HostId) : (s.deviceReset pins senses).session h = .reset := Quad.get_const _ h

theorem State.deviceReset_noticeRec (h : HostId) : (s.deviceReset pins senses).noticeRec h = .reset := Quad.get_const _ h

theorem State.deviceReset_port (p : HostId) : (s.deviceReset pins senses).port p = .reset (pins.selectsLow.get p) := by
  cases p <;> rfl

theorem State.deviceReset_atReset : AtReset (s.deviceReset pins senses) where
  tb := rfl
  entries := rfl
  lines l := ⟨s.deviceReset_line pins senses l, s.deviceReset_claim pins senses l⟩
  channels c := ⟨by rw [s.deviceReset_channel]; rfl, s.deviceReset_reflex pins senses c⟩
  hosts h := by
    refine ⟨s.deviceReset_session pins senses h, s.deviceReset_noticeRec pins senses h, ?_⟩
    rw [s.deviceReset_port]
    cases hlow : pins.selectsLow.get h <;> simp [PortRec.reset]

end Lookups

section Held

variable {s t : State} (hs : AtReset s)

include hs

theorem AtReset.takenFrame_none (p : HostId) : s.takenFrame p = none := by
  unfold State.takenFrame
  split
  · next hshift => exact absurd hshift (hs.hosts p).2.2
  · rfl

theorem AtReset.countsEdge_false (c : ChannelId) (level : Level) : s.countsEdge c level = false := by
  simp [State.countsEdge, hs.tb, Timebase.reset]

theorem AtReset.setPort {p : HostId} {r : PortRec} (hr : r.transaction ≠ .shifting) : AtReset (s.setPort p r) where
  tb := hs.tb
  entries := hs.entries
  lines := hs.lines
  channels := hs.channels
  hosts h := by
    refine ⟨(hs.hosts h).1, (hs.hosts h).2.1, ?_⟩
    rw [State.port_setPort]
    split
    · exact hr
    · exact (hs.hosts h).2.2

theorem AtReset.setChannel {c : ChannelId} {r : ChannelRec} (hr : r.state = .idle) : AtReset (s.setChannel c r) where
  tb := hs.tb
  entries := hs.entries
  lines := hs.lines
  channels d := by
    refine ⟨?_, (hs.channels d).2⟩
    rw [State.channel_setChannel]
    split
    · exact hr
    · exact (hs.channels d).1
  hosts := hs.hosts

/-- A sense line's change moves the pin and the settled level only. -/
theorem AtReset.driveSense (c : ChannelId) (level : Level) : AtReset (s.driveSense c level) := by
  have pinned : AtReset (s.setChannel c { s.channel c with pin := level }) := hs.setChannel (hs.channels c).1
  unfold State.driveSense
  dsimp only
  split
  · have settled := pinned.setChannel (c := c)
      (r := { (s.setChannel c { s.channel c with pin := level }).channel c with
        settled := ((s.setChannel c { s.channel c with pin := level }).channel c).pin, filterCount := 0 }) (pinned.channels c).1
    unfold State.settleLevel State.takeEdge
    rw [settled.countsEdge_false, if_neg Bool.false_ne_true]
    exact settled
  · exact pinned

/-- While RESET_N is low no command but a device reset moves a record off its reset value. -/
theorem AtReset.effect (hr : s.resetN = false) (hst : Effect s t) : AtReset t := by
  have notHigh : ∀ {P : Prop}, s.resetN = true → P := fun h => absurd (hr.symm.trans h) Bool.false_ne_true
  cases hst with
  | nothing => exact hs
  | request p row block => exact (s.takeRequest_none p row block (hs.takenFrame_none p)).symm ▸ hs
  | unknown p =>
    have stands : s.takeUnknown p = s := by simp [State.takeUnknown, hs.takenFrame_none p]
    exact stands.symm ▸ hs
  | selected p =>
    unfold State.selectPort
    split
    · rw [if_neg (by simp [hr])]; exact hs
    · exact hs
  | clocked p edge sdi =>
    unfold State.clockPort
    split
    · next hshift => exact absurd hshift (hs.hosts p).2.2
    · exact hs
  | endedWithoutFrame p =>
    unfold State.endWithoutFrame
    split
    · exact hs
    · exact hs.setPort (nofun)
    · next hshift => exact absurd hshift (hs.hosts p).2.2
  | abandoned p =>
    unfold State.abandon
    split
    · next hshift => exact absurd hshift (hs.hosts p).2.2
    · exact hs
  | silence h ho => exact absurd ho (by rw [Open, (hs.hosts h).1]; exact Bool.false_ne_true)
  | ticked =>
    unfold State.runTick
    rw [if_neg (by rw [hs.tb]; exact nofun)]
    exact hs
  | cycled h => exact notHigh h
  | synced =>
    have stands : s.syncEdge = s := by simp [State.syncEdge, hs.tb, Timebase.reset]
    exact stands.symm ▸ hs
  | absent h | present h => exact notHigh h
  | driven c level => exact hs.driveSense c level
  | captured c level hc =>
    simp only [State.capturesNext, hs.countsEdge_false, Bool.false_and] at hc
    exact absurd hc Bool.false_ne_true
  | reset pins senses => exact s.deviceReset_atReset pins senses
  | period =>
    unfold State.housekeepingPeriod
    rw [if_neg (by simp [hr])]
    exact hs

end Held

theorem resetIsHeld_step {s t : State} (hs : ResetIsHeld s) (h : step s = .next t) : ResetIsHeld t := by
  refine step_holds (P := ResetIsHeld) (fun _ _ hu => hu) (fun u v hu he => ?_) hs h
  rw [resetIsHeld_iff] at hu ⊢
  intro hv
  rcases he.touches with hsame | ⟨pins, senses, hreset⟩
  · exact AtReset.effect (hu (hsame.resetN ▸ hv)) (hsame.resetN ▸ hv) he
  · exact hreset ▸ u.deviceReset_atReset pins senses

/-- Settles O57: the queues and the lost counts by the notice law, the channel counts by the channel law, and the port records by
their walk; while RESET_N is low no effect moves a record off its reset value. -/
theorem stepKeepsQueuesAndCountsInRange : Obligations.StepKeepsQueuesAndCountsInRange := by
  intro s t h
  refine ⟨fun hqueues hcounts hchannels hports => ?_, fun hs => resetIsHeld_step hs h⟩
  have queues : EveryRecord QueueSound t := EveryRecord.step queue_law (fun k => ⟨hqueues k, (hcounts k).1⟩) h
  have channels : EveryChannel CountsInRange t := EveryChannel.step counts_law hchannels h
  have ports : PortsSound t :=
    step_holds (P := PortsSound) (fun _ _ hu => hu) (fun _ _ hu he => hu.effect he)
      ((portsSound_iff s).mpr ⟨fun p => (hcounts p).2, hports⟩) h
  obtain ⟨errors, consistent⟩ := (portsSound_iff t).mp ports
  exact ⟨fun k => (queues k).1, fun k => ⟨(queues k).2, errors k⟩, channels, consistent⟩

end Sys2Proof.Machine
end

section
/-! What each event makes of the timebase record, as equations (chapter 2). -/

set_option Elab.async false

namespace Sys2Proof.Machine

open Sys2Proof.Safety

/-! ## One event among several -/

/-- Among events of which one acts on a view of the state and the others leave it alone, that one acts once. -/
theorem foldl_once {α β : Type} [DecidableEq α] (view : State → β) (take : State → α → State) (act : β → β) (x : α) (xs : List α)
    (hothers : ∀ s, ∀ y ∈ xs, y ≠ x → view (take s y) = view s) (hact : ∀ s, view (take s x) = act (view s))
    (hcount : xs.count x = 1) (s : State) : view (xs.foldl take s) = act (view s) := by
  induction xs generalizing s with
  | nil => exact absurd hcount (by simp)
  | cons y ys ih =>
    rw [List.foldl_cons]
    by_cases hy : y = x
    · subst hy
      have hgone : y ∉ ys := by simpa [List.count_eq_zero] using hcount
      rw [foldl_keeps view take ys (fun t z hz => hothers t z (List.mem_cons_of_mem y hz) fun h => hgone (h ▸ hz)), hact]
    · rw [ih (fun t z hz => hothers t z (List.mem_cons_of_mem y hz)) (by simpa [List.count_cons, hy] using hcount),
        hothers s y List.mem_cons_self hy]

/-- The same, whichever order the events are taken in. -/
theorem State.takeAll_once {α β : Type} [DecidableEq α] (view : State → β) (take : State → α → State) (act : β → β) (x : α)
    (xs : List α) (hchoice : ∀ s n, view (s.setChoices n) = view s)
    (hothers : ∀ s, ∀ y ∈ xs, y ≠ x → view (take s y) = view s) (hact : ∀ s, view (take s x) = act (view s))
    (hcount : xs.count x = 1) (s : State) : view (s.takeAll xs take) = act (view s) := by
  obtain ⟨n, hn⟩ := s.inOrder_state xs
  rw [State.takeAll, foldl_once view take act x _ (fun t y hy => hothers t y ((s.inOrder_perm xs).subset hy)) hact
    (((s.inOrder_perm xs).count_eq x).trans hcount), hn, hchoice]

theorem count_main (cs : List ChannelId) : (TickEvent.main :: cs.map .edge).count .main = 1 := by
  have : TickEvent.main ∉ cs.map TickEvent.edge := by simp
  rw [List.count_cons_self, List.count_eq_zero.mpr this]

/-! ## Wraps and ticks -/

/-- The record behind a wrap's halt, if it has one (R43). -/
def Timebase.haltedIf (t : Timebase) (cause : Option TbCause) : Timebase :=
  match cause with
  | none => t
  | some _ => { t with mode := .halted, divider := 0, pendingStop := false }

theorem State.haltIf_tb (s : State) (cause : Option TbCause) : (s.haltIf cause).tb = s.tb.haltedIf cause := by
  cases cause with
  | none => rfl
  | some cause => exact (State.tellMode_touches _ cause _).tb rfl

theorem State.afterWrap_tb (s : State) (w : WrapReport) : (s.afterWrap w).tb = s.tb.haltedIf w.halt :=
  (State.haltIf_tb _ _).trans (by rw [(s.afterWrap_tells_touches w).tb rfl])

theorem State.tickEffects_tb (s : State) (report : Option WrapReport) :
    (s.tickEffects report).tb = s.tb.haltedIf (report.bind WrapReport.halt) := by
  cases report with
  | none => exact ((s.claimedLines_touches OutputRec.countDown).step (State.fireDue_touches _)
      (k := { entries := true, uses := true, notices := true, channels := true, lines := true })).tb rfl
  | some w =>
    have counted : s.countPulses.tb = s.tb := (s.claimedLines_touches OutputRec.countDown).tb rfl
    exact (State.afterWrap_tb _ w).trans (by rw [counted]; rfl)

/-- The record behind a tick (R32, R33, R43). -/
def Timebase.afterTick (t : Timebase) : Timebase :=
  if t.atLastPhase then (t.wrapped true).haltedIf t.haltCause else { t with now := ⟨t.now.frame, t.now.phase + 1⟩ }

theorem State.tick_tb (s : State) : s.tick.tb = s.tb.afterTick := by
  have main := State.takeAll_once State.tb (State.takeTickEvent s.tb.tickReport)
    (fun t => t.haltedIf (s.tb.tickReport.bind WrapReport.halt)) .main
    (.main :: (((s.setTb s.tb.ticked).completing .tick).map .edge)) (fun _ _ => rfl)
    (fun t y _ hne => by
      cases y with
      | main => exact absurd rfl hne
      | edge c => exact (t.settleLevel_touches c).tb rfl)
    (fun t => t.tickEffects_tb _) (count_main _) ((s.setTb s.tb.ticked).sampleAll .tick)
  refine main.trans ?_
  rw [(State.sampleAll_touches _ .tick).tb rfl, State.setTb_tb]
  unfold Timebase.ticked Timebase.tickReport Timebase.afterTick
  split <;> rfl

/-- The record behind a REFCLK cycle (R31). -/
def Timebase.afterCycle (t : Timebase) : Timebase := if t.tickDue then t.cycled.afterTick else t.cycled

theorem State.refclkCycle_tb (s : State) : s.refclkCycle.tb = s.tb.afterCycle := by
  have edges (t : State) (c : ChannelId) : (t.takeCycleEvent (.edge c)).tb = t.tb := (t.settleLevel_touches c).tb rfl
  have sampled : ((s.setTb s.tb.cycled).sampleAll .refclk).tb = s.tb.cycled := (State.sampleAll_touches _ .refclk).tb rfl
  unfold State.refclkCycle Timebase.afterCycle
  dsimp only
  split
  · have main := State.takeAll_once State.tb State.takeCycleEvent Timebase.afterTick .main
      (.main :: (((s.setTb s.tb.cycled).completing .refclk).map .edge)) (fun _ _ => rfl)
      (fun t y _ hne => by
        cases y with
        | main => exact absurd rfl hne
        | edge c => exact edges t c)
      (fun t => t.tick_tb) (count_main _) ((s.setTb s.tb.cycled).sampleAll .refclk)
    exact main.trans (by rw [sampled])
  · refine (State.takeAll_keeps State.tb _ _ (fun _ _ => rfl) (fun t y hy => ?_) _).trans sampled
    obtain ⟨c, _, rfl⟩ := List.mem_map.mp hy
    exact edges t c

theorem State.refclkCycles_tb (n : Nat) (s : State) : (s.refclkCycles n).tb = Timebase.afterCycle^[n] s.tb := by
  induction n generalizing s with
  | zero => rfl
  | succ n ih => exact (ih s.refclkCycle).trans (by rw [s.refclkCycle_tb, Function.iterate_succ_apply])

/-! ## SYNC edges -/

theorem State.alignedWrap_tb (s : State) : s.alignedWrap.tb = (s.tb.wrapped false).haltedIf s.tb.haltCause := by
  have overtaken : s.overtake.tb = s.tb := s.overtake_touches.tb rfl
  exact (State.afterWrap_tb _ _).trans (by rw [overtaken]; rfl)

/-- The record before the aligned wrap of a SYNC edge, by the edge's class (R51). -/
def Timebase.aligning (t : Timebase) : Timebase :=
  match t.classifyEdge with
  | .acquire => { t with lock := .locked, missCount := 0 }
  | .onTime => { t with missCount := 0 }
  | .late | .early => t

theorem State.takeSyncEdge_tb (s : State) :
    s.takeSyncEdge.tb =
      if s.tb.classifyEdge = .late then s.tb.setBack
      else (s.tb.aligning.wrapped false).haltedIf s.tb.haltCause := by
  unfold State.takeSyncEdge Timebase.aligning
  cases s.tb.classifyEdge with
  | acquire =>
    rw [if_neg nofun]
    refine (State.alignedWrap_tb _).trans ?_
    rw [(State.tellTimebase_touches _ _ _ _).tb rfl]
    rfl
  | onTime =>
    rw [if_neg nofun]
    exact State.alignedWrap_tb _
  | late => rfl
  | early =>
    rw [if_neg nofun]
    refine (State.alignedWrap_tb _).trans ?_
    rw [(State.tellTimebase_touches _ _ _ _).tb rfl]

/-- The record once a SYNC edge has started the count (R40). -/
def Timebase.startedBySync (t : Timebase) : Timebase :=
  { t with mode := .running, divider := 0, lock := match t.syncMode with | .align => .locked | .none => t.lock }

theorem State.syncStart_tb (s : State) : s.syncStart.tb = s.tb.startedBySync := by
  unfold State.syncStart
  dsimp only
  split
  · next hmode =>
    refine (((State.tellTimebase_touches _ _ _ _).trans (State.tellMode_touches _ _ _)).tb rfl).trans ?_
    rw [Timebase.startedBySync, hmode]
    rfl
  · next hmode =>
    refine ((State.tellMode_touches _ _ _).tb rfl).trans ?_
    rw [Timebase.startedBySync, hmode]
    rfl

/-! ## Requests and session ends -/

theorem State.restart_tb (s : State) : s.restart.tb = { s.tb with now := ⟨0, 0⟩ } := by
  have evicted : (s.evict (fun e => e.recurrence.isNone) .restart).tb = s.tb := (s.evict_touches _ _).tb rfl
  change ({ (s.evict (fun e => e.recurrence.isNone) .restart).tb with now := ⟨0, 0⟩ } : Timebase) = _
  rw [evicted]

/-- The record once TB_START has started the timebase (R39). -/
def Timebase.started (t : Timebase) (f : StartFields) : Timebase :=
  { t with
    now := if f.restart then ⟨0, 0⟩ else t.now
    runLimit := f.runLimit, lock := .searching, missCount := 0, prevMissed := false
    mode := if f.onSync then .awaitingSync else .running
    divider := if f.onSync then t.divider else 0 }

theorem State.startTimebase_tb (s : State) (f : StartFields) : (s.startTimebase f).tb = s.tb.started f := by
  refine ((State.tellTimebase_touches _ _ _ _).tb rfl).trans ?_
  cases hf : f.restart
  · simp [Timebase.started, hf]
  · simp [Timebase.started, hf, s.restart_tb]

/-- The record once TB_STOP NOW has halted a RUNNING timebase (R42). -/
def Timebase.stopped (t : Timebase) : Timebase := { t with mode := .halted, divider := 0, staged := none, pendingStop := false }

theorem State.stopNow_tb (s : State) : s.stopNow.tb = s.tb.stopped := by
  have told (t : Timebase) (news : List StopNews) : ((s.setTb t).takeAll news (State.tellStop s)).tb = t :=
    (State.takeAll_tellStop_touches s _ news).tb rfl
  unfold State.stopNow
  dsimp only
  split
  · exact ((State.tellMode_touches _ _ _).tb rfl).trans (told _ _)
  · exact told _ _

/-- The record without its plans (R44). -/
def Timebase.unplanned (t : Timebase) : Timebase := { t with staged := none, pendingStop := false }

theorem State.discardOnRelease_tb (s : State) (h : HostId) :
    (s.discardOnRelease h).tb = if s.tb.mode = .running then s.tb.unplanned else s.tb := by
  unfold State.discardOnRelease
  have evicted : s.discardEvict.tb = s.tb := (s.evict_touches _ _).tb rfl
  split
  · next hplans =>
    rw [if_pos hplans.1]
    exact ((State.tellMode_touches _ _ _).tb rfl).trans (by rw [State.dropPlans, State.setTb_tb, evicted]; rfl)
  · next hplans =>
    split
    · next hrunning =>
      have hnone : s.tb.staged = none ∧ s.tb.pendingStop = false := by simpa [hrunning, Timebase.hasPlans] using hplans
      rw [Timebase.unplanned, ← hnone.1, ← hnone.2]
    · rfl

/-- The record without host `h` as its holder, whose plans go with it (R60). -/
def Timebase.without (t : Timebase) (h : HostId) : Timebase :=
  if t.holder = some h then
    (if t.mode = .running then { t with holder := none, staged := none, pendingStop := false } else { t with holder := none })
  else t

theorem tbWithout_eq (s : State) (h : HostId) : tbWithout s h = s.tb.without h := rfl

theorem State.release_tb (s : State) (h : HostId) (hh : s.tb.holder = some h) :
    ((s.setTb { s.tb with holder := none }).discardOnRelease h).tb = s.tb.without h := by
  rw [State.discardOnRelease_tb, Timebase.without, if_pos hh]
  rfl

theorem State.endHold_tb (s : State) (h : HostId) : (s.endHold h).tb = s.tb.without h := by
  unfold State.endHold
  split
  · exact s.release_tb h ‹_›
  · exact (if_neg ‹_›).symm

/-- The hold ends once with its holder's session, whether the discard tells anybody or not (R60, R160). -/
theorem State.endSession_tb (s : State) (h : HostId) (cause : EndCause) : (s.endSession h cause).tb = s.tb.without h := by
  have own : (s.endOwn h cause).tb = s.tb := (s.endOwn_touches h cause).tb rfl
  have claims (t : State) (l : LineId) : (t.endClaim h l).tb = t.tb := (t.endClaim_touches h l).tb rfl
  have silent : ((s.endOwn h cause).endSilently h).tb = if (s.endOwn h cause).endDiscards h then s.tb else s.tb.without h := by
    refine (foldl_keeps State.tb _ _ (fun t l _ => claims t l) _).trans ?_
    split
    · exact own
    · exact (State.endHold_tb _ h).trans (by rw [own])
  unfold State.endSession State.endAnswers
  dsimp only
  split at silent
  · next hdiscards =>
    have hcount (ls : List LineId) : (EndAnswer.timebase :: ls.map .line).count .timebase = 1 := by
      have : EndAnswer.timebase ∉ ls.map EndAnswer.line := by simp
      rw [List.count_cons_self, List.count_eq_zero.mpr this]
    rw [if_pos hdiscards]
    refine (State.takeAll_once State.tb (State.giveEndAnswer h) (fun t => t.without h) .timebase _ (fun _ _ => rfl)
      (fun t y _ hne => ?_) (fun t => t.endHold_tb h) (hcount _) _).trans (by rw [silent])
    cases y with
    | timebase => exact absurd rfl hne
    | line l => exact claims t l
  · next hdiscards =>
    rw [if_neg hdiscards]
    refine (State.takeAll_keeps State.tb (State.giveEndAnswer h) _ (fun _ _ => rfl) (fun t y hy => ?_) _).trans silent
    obtain ⟨l, _, rfl⟩ := List.mem_map.mp hy
    exact claims t l

/-! ## The reference monitor -/

/-- The record once ABSENT is declared (R55). -/
def Timebase.refGone (t : Timebase) : Timebase :=
  { t with
    mode := .refLost, divider := 0, staged := none, pendingStop := false
    monitor := { t.monitor with verdict := .absent, withoutEdge := 0, withEdge := 0 } }

theorem State.declareAbsent_tb (s : State) : s.declareAbsent.tb = s.tb.refGone := by
  have evicted : s.discardEvict.tb = s.tb := (s.evict_touches _ _).tb rfl
  have told (t : Timebase) : (((s.discardEvict.setTb t).alertAll).tellMode .refLost).tb = t :=
    ((State.alertAll_touches _).trans (State.tellMode_touches _ _ _)).tb rfl
  unfold State.declareAbsent
  dsimp only
  split
  · refine ((State.claimedLines_touches _ _).tb rfl).trans (((State.tellMode_touches _ _ _).tb rfl).trans ((told _).trans ?_))
    rw [evicted]
    rfl
  · refine ((State.claimedLines_touches _ _).tb rfl).trans ((told _).trans ?_)
    rw [evicted]
    rfl

/-- The record once PRESENT is declared (R56). -/
def Timebase.refBack (t : Timebase) : Timebase :=
  { t with monitor := { t.monitor with verdict := .present, withoutEdge := 0, withEdge := 0 } }

theorem State.declarePresent_tb (s : State) : s.declarePresent.tb = s.tb.refBack := (State.tellMode_touches _ _ _).tb rfl

end Sys2Proof.Machine
end

section
/-! O58: every step keeps the timebase record sound. -/

set_option Elab.async false

namespace Sys2Proof.Machine

open Sys2Proof.Safety

/-! ## The record by itself -/

/-- The timebase record is in range, and its plans, its misses and its reference agree with its state (R31, R32, R38, R44, R53). -/
structure Timebase.Sound (t : Timebase) : Prop where
  phase : t.now.phase < t.length
  length : Config.minLength ≤ t.length ∧ t.length ≤ Config.maxLength
  staged : ∀ n ∈ t.staged, Config.minLength ≤ n ∧ n ≤ Config.maxLength
  prescale : 1 ≤ t.prescale ∧ t.prescale ≤ 256
  divider : t.divider < t.prescale
  stopped : t.mode ≠ .running → t.divider = 0
  misses : t.missCount ≤ Config.lostAfter
  limit : t.runLimit ≤ 65535
  fewer : t.lock ≠ .lost → t.missCount < Config.lostAfter
  waiting : t.mode = .awaitingSync → t.lock = .searching
  plans : t.hasPlans = true → t.mode = .running ∧ t.holder.isSome = true
  reference : t.mode = .running ∨ t.mode = .awaitingSync → t.monitor.verdict = .present

theorem Timebase.hasPlans_eq_false_iff (t : Timebase) : t.hasPlans = false ↔ t.staged = none ∧ t.pendingStop = false := by
  simp [Timebase.hasPlans]

theorem Timebase.reset_sound : Timebase.reset.Sound :=
  ⟨by decide, by decide, nofun, by decide, by decide, fun _ => rfl, by decide, by decide, by decide, nofun, nofun, by decide⟩

namespace Timebase.Sound

variable {t : Timebase} (ht : t.Sound)

include ht

theorem staged_none (h : t.mode ≠ .running) : t.staged = none ∧ t.pendingStop = false :=
  t.hasPlans_eq_false_iff.mp (Bool.eq_false_iff.mpr fun hp => h (ht.plans hp).1)

/-- The length that governs the frames behind the current one is a length. -/
theorem laterLength : Config.minLength ≤ t.staged.getD t.length ∧ t.staged.getD t.length ≤ Config.maxLength := by
  cases hstaged : t.staged with
  | none => exact ht.length
  | some n => exact ht.staged n hstaged

/-- A timebase that stops has no plans left, and its divider stands at 0. -/
theorem halted {u : Timebase} (hu : u = t.stopped) : u.Sound := by
  subst hu
  exact
    { ht with
      staged := nofun
      divider := Nat.lt_of_lt_of_le Nat.zero_lt_one ht.prescale.1
      stopped := fun _ => rfl
      waiting := nofun
      plans := nofun
      reference := nofun }

theorem haltedIf (hstaged : t.staged = none) (cause : Option TbCause) : (t.haltedIf cause).Sound := by
  cases cause with
  | none => exact ht
  | some _ => exact ht.halted (by rw [Timebase.haltedIf, Timebase.stopped, hstaged])

/-- A wrap begins a frame of a known length; its third miss in a row gives up the lock (R33, R53). -/
theorem wrapped (natural : Bool) (hrun : t.mode = .running) : (t.wrapped natural).Sound where
  phase := Nat.lt_of_lt_of_le (Nat.zero_lt_succ 63) ht.laterLength.1
  length := ht.laterLength
  staged := nofun
  prescale := ht.prescale
  divider := ht.divider
  stopped := ht.stopped
  misses := by
    have hlocked : t.misses natural = true → t.lock ≠ .lost := by
      intro hm hl
      simp [Timebase.misses, hl] at hm
    dsimp only [Timebase.wrapped]
    split
    · next hm => exact ht.fewer (hlocked hm)
    · exact ht.misses
  limit := Nat.le_trans (Nat.sub_le _ _) ht.limit
  fewer := by
    dsimp only [Timebase.wrapped]
    split
    · exact fun h => absurd rfl h
    · next hkeeps =>
      intro hlock
      split
      · next hm => simpa [Timebase.losesLock, hm] using hkeeps
      · exact ht.fewer hlock
  waiting := fun h => absurd (hrun.symm.trans h) nofun
  plans := fun h => ht.plans (by
    simp only [Timebase.hasPlans, Timebase.wrapped, Option.isSome_none, Bool.false_or] at h
    simp [Timebase.hasPlans, h])
  reference := ht.reference

theorem afterTick (hrun : t.mode = .running) : t.afterTick.Sound := by
  unfold Timebase.afterTick
  split
  · exact (ht.wrapped true hrun).haltedIf rfl _
  · next hlast =>
    exact { ht with phase := by simpa [Timebase.atLastPhase] using hlast }

theorem cycled : t.cycled.Sound :=
  { ht with
    divider := by
      dsimp only [Timebase.cycled]
      split
      · next hrun =>
        split
        · exact Nat.lt_of_lt_of_le Nat.zero_lt_one ht.prescale.1
        · next hdue => simpa [Timebase.tickDue, hrun] using hdue
      · exact ht.divider
    stopped := fun h => by
      dsimp only [Timebase.cycled] at h ⊢
      rw [if_neg h]
      exact ht.stopped h }

theorem afterCycle : t.afterCycle.Sound := by
  unfold Timebase.afterCycle
  split
  · next hdue =>
    exact ht.cycled.afterTick (by simp only [Timebase.tickDue, Bool.and_eq_true, decide_eq_true_eq] at hdue; exact hdue.1)
  · exact ht.cycled

theorem setBack : t.setBack.Sound :=
  { ht with
    phase := Nat.lt_of_le_of_lt (Nat.zero_le _) ht.phase
    misses := Nat.zero_le _
    fewer := fun _ => Nat.zero_lt_succ _ }

theorem aligning (hrun : t.mode = .running) : t.aligning.Sound := by
  unfold Timebase.aligning
  split
  · exact
      { ht with
        misses := Nat.zero_le _
        fewer := fun _ => Nat.zero_lt_succ _
        waiting := fun h => absurd (hrun.symm.trans h) nofun }
  · exact { ht with misses := Nat.zero_le _, fewer := fun _ => Nat.zero_lt_succ _ }
  · exact ht
  · exact ht

theorem startedBySync (hwait : t.mode = .awaitingSync) : t.startedBySync.Sound :=
  { ht with
    divider := Nat.lt_of_lt_of_le Nat.zero_lt_one ht.prescale.1
    stopped := fun _ => rfl
    fewer := fun _ => ht.fewer (by rw [ht.waiting hwait]; exact nofun)
    waiting := nofun
    plans := fun h => absurd (hwait.symm.trans (ht.plans h).1) nofun
    reference := fun _ => ht.reference (.inr hwait) }

theorem started (f : StartFields) (hlimit : f.runLimit ≤ 65535) (hmode : t.mode ≠ .running)
    (href : t.monitor.verdict = .present) : (t.started f).Sound := by
  have hdivider : t.divider = 0 := ht.stopped hmode
  have hplans : t.hasPlans = false := Bool.eq_false_iff.mpr fun h => hmode (ht.plans h).1
  exact
    { phase := by
        dsimp only [Timebase.started]
        split
        · exact Nat.lt_of_le_of_lt (Nat.zero_le _) ht.phase
        · exact ht.phase
      length := ht.length
      staged := ht.staged
      prescale := ht.prescale
      divider := by
        have := ht.prescale.1
        dsimp only [Timebase.started]
        split <;> omega
      stopped := fun _ => by
        dsimp only [Timebase.started]
        split
        · exact hdivider
        · rfl
      misses := Nat.zero_le _
      limit := hlimit
      fewer := fun _ => Nat.zero_lt_succ _
      waiting := fun _ => rfl
      plans := fun h => absurd (hplans.symm.trans h) Bool.false_ne_true
      reference := fun _ => href }

theorem unheld (h : HostId) : (t.without h).Sound := by
  unfold Timebase.without
  split
  · split
    · exact { ht with staged := nofun, plans := nofun }
    · next hmode => exact { ht with plans := fun hp => absurd (ht.plans hp).1 hmode }
  · exact ht

theorem refGone : t.refGone.Sound :=
  { ht with
    staged := nofun
    divider := Nat.lt_of_lt_of_le Nat.zero_lt_one ht.prescale.1
    stopped := fun _ => rfl
    waiting := nofun
    plans := nofun
    reference := nofun }

theorem refBack : t.refBack.Sound := { ht with reference := fun _ => rfl }

/-- A holder's setting of R47, R48 or the pending stop of R42. -/
theorem setting {u : Timebase} {h : HostId} (hu : TbSetting t u) (hh : t.holder = some h) : u.Sound := by
  cases hu with
  | stopsAtWrap hmode => exact { ht with plans := fun _ => ⟨hmode, by rw [hh]; rfl⟩ }
  | sync m window =>
    exact { ht with misses := Nat.zero_le _, fewer := fun _ => Nat.zero_lt_succ _, waiting := fun _ => rfl }
  | prescale b hmode =>
    have hstopped : t.divider = 0 := ht.stopped (by rcases hmode with h | h <;> rw [h] <;> exact nofun)
    have hrange : 1 ≤ prescaleOf b ∧ prescaleOf b ≤ 256 := by
      unfold prescaleOf
      split
      · omega
      · next hb =>
        have hpos : b.toNat ≠ 0 := fun h0 => hb (BitVec.eq_of_toNat_eq h0)
        have := b.isLt
        omega
    exact { ht with prescale := hrange, divider := by dsimp only; omega }

end Timebase.Sound

/-! ## The record and its holder -/

/-- The timebase record is sound and held by an open session only. -/
structure Steady (s : State) : Prop where
  sound : s.tb.Sound
  holder : ∀ h, s.tb.holder = some h → Open s h

theorem steady_iff (s : State) :
    Steady s ↔ TimebaseInRange s ∧ MissesBelowLoss s ∧ PlansAreHeld s ∧ RunsOnReference s := by
  constructor
  · rintro ⟨h, hh⟩
    exact ⟨⟨h.phase, h.length, h.staged, h.prescale, h.divider, h.stopped, h.misses, h.limit⟩, ⟨h.fewer, h.waiting⟩,
      ⟨hh, h.plans⟩, h.reference⟩
  · rintro ⟨⟨phase, length, staged, prescale, divider, stopped, misses, limit⟩, ⟨fewer, waiting⟩, ⟨hh, plans⟩, reference⟩
    exact ⟨⟨phase, length, staged, prescale, divider, stopped, misses, limit, fewer, waiting, plans, reference⟩, hh⟩

/-- A session end changes its own session's record and no other (R160). -/
theorem State.endSession_session (s : State) (h k : HostId) (cause : EndCause) :
    (s.endSession h cause).session k = if k = h then (s.session h).ended cause else s.session k := by
  have own : (s.endOwn h cause).sessions = (s.setSession h ((s.session h).ended cause)).sessions :=
    ((((State.setNotice_touches _ h _).step (State.removeQuietly_touches _ _)
      (k := { notices := true, entries := true, uses := true })).step (State.removeReflexes_none_touches _ _)
      (k := { notices := true, entries := true, uses := true, reflexes := true })).step (State.endSubscriptions_touches _ h)
      (k := { notices := true, entries := true, uses := true, reflexes := true, channels := true })).sessions rfl
  have ended : (s.endSession h cause).sessions = (s.endOwn h cause).sessions :=
    ((State.endSilently_touches _ h).trans (.takeAll rfl (fun t x _ => State.giveEndAnswer_touches h t x) _)).sessions rfl
  rw [State.session, ended, own]
  exact s.session_setSession h k _

namespace Steady

variable {s t : State} (hs : Steady s)

include hs

/-- The record changes soundly, and nobody else becomes its holder or closes. -/
theorem changed (hsound : t.tb.Sound) (hholder : ∀ h, t.tb.holder = some h → s.tb.holder = some h)
    (hopen : ∀ h, Open s h → Open t h) : Steady t := ⟨hsound, fun h hh => hopen h (hs.holder h (hholder h hh))⟩

/-- The same for an operation that leaves the sessions alone. -/
theorem advanced {m : Touched} (hm : OnlyTouches m s t) (hsound : t.tb.Sound) (hholder : t.tb.holder = s.tb.holder)
    (hk : m.sessions = false := by rfl) : Steady t :=
  hs.changed hsound (fun _ hh => hholder ▸ hh) fun h ho => by rw [Open, State.session, hm.sessions hk]; exact ho

theorem of_touches {m : Touched} (h : OnlyTouches m s t) (htb : m.tb = false := by rfl) (hk : m.sessions = false := by rfl) :
    Steady t := hs.advanced h (h.tb htb ▸ hs.sound) (by rw [h.tb htb]) hk

theorem setSession (h : HostId) {r : SessionRec} (hr : (s.session h).isOpen = true → r.isOpen = true) :
    Steady (s.setSession h r) :=
  hs.changed hs.sound (fun _ hh => hh) fun k hk => by
    rw [Open, State.session_setSession]
    split
    · next hkh => exact hr (hkh ▸ hk)
    · exact hk

theorem arrived (p : HostId) : Steady (Safety.arrived s p) :=
  hs.changed hs.sound (fun _ hh => hh) fun k hk => by rw [Open, State.session, State.arrived_isOpen]; exact hk

theorem refclkCycle : Steady s.refclkCycle :=
  hs.advanced s.refclkCycle_touches (s.refclkCycle_tb ▸ hs.sound.afterCycle) (by
    rw [s.refclkCycle_tb]
    unfold Timebase.afterCycle Timebase.afterTick Timebase.haltedIf
    split
    · split
      · split <;> rfl
      · rfl
    · rfl)

theorem runTick : Steady s.runTick := by
  have cycles : ∀ n, ∀ u : State, Steady u → Steady (u.refclkCycles n) := by
    intro n
    induction n with
    | zero => exact fun _ hu => hu
    | succ n ih => exact fun u hu => ih _ hu.refclkCycle
  unfold State.runTick
  split
  · exact cycles _ s hs
  · exact hs

theorem syncEdge : Steady s.syncEdge := by
  unfold State.syncEdge
  split
  · next hmode =>
    exact hs.advanced s.syncStart_touches (s.syncStart_tb ▸ hs.sound.startedBySync hmode) (by rw [s.syncStart_tb]; rfl)
  · next hmode _ =>
    have hcause (t : Timebase) (c : Option TbCause) : (t.haltedIf c).holder = t.holder := by cases c <;> rfl
    have haligning : s.tb.aligning.holder = s.tb.holder ∧ s.tb.aligning.mode = s.tb.mode := by
      unfold Timebase.aligning
      split <;> exact ⟨rfl, rfl⟩
    refine hs.advanced s.takeSyncEdge_touches ?_ ?_
    · rw [s.takeSyncEdge_tb]
      split
      · exact hs.sound.setBack
      · exact ((hs.sound.aligning hmode).wrapped false (haligning.2.trans hmode)).haltedIf rfl _
    · rw [s.takeSyncEdge_tb]
      split
      · rfl
      · rw [hcause]
        exact haligning.1
  · exact hs

theorem countMonitor : Steady s.countMonitor :=
  hs.advanced s.countMonitor_touches
    { hs.sound with
      reference := fun h => by
        have hv : s.tb.monitor.counted.verdict = s.tb.monitor.verdict := by unfold RefMonitor.counted; split <;> rfl
        exact hv.trans (hs.sound.reference h) } rfl

theorem declareAbsent : Steady s.declareAbsent :=
  hs.advanced s.declareAbsent_touches (s.declareAbsent_tb ▸ hs.sound.refGone) (by rw [s.declareAbsent_tb]; rfl)

theorem declarePresent : Steady s.declarePresent :=
  hs.advanced s.declarePresent_touches (s.declarePresent_tb ▸ hs.sound.refBack) (by rw [s.declarePresent_tb]; rfl)

theorem endSession (h : HostId) (cause : EndCause) : Steady (s.endSession h cause) := by
  have hholder (k : HostId) (hk : (s.tb.without h).holder = some k) : s.tb.holder = some k ∧ k ≠ h := by
    unfold Timebase.without at hk
    split at hk
    · split at hk <;> cases hk
    · next hne => exact ⟨hk, fun hkh => hne (hkh ▸ hk)⟩
  refine ⟨(s.endSession_tb h cause).symm ▸ hs.sound.unheld h, fun k hk => ?_⟩
  rw [s.endSession_tb] at hk
  rw [Open, s.endSession_session, if_neg (hholder k hk).2]
  exact hs.holder k (hholder k hk).1

theorem housekeepingPeriod : Steady s.housekeepingPeriod := by
  have timers : Steady (allHosts.foldl (fun v h => v.setSession h (v.session h).counted) (allHosts.foldl State.stallCheck s)) :=
    foldl_holds Steady _ _ (fun t ht h _ => ht.setSession h fun ho => (SessionRec.counted_isOpen _).trans ho) _
      (hs.of_touches s.stallChecks_touches)
  unfold State.housekeepingPeriod
  split
  · refine State.takeAll_holds Steady _ _ (fun t n ht => ht.of_touches (t.setChoices_touches n)) (fun t ht x _ => ?_) _
      timers.countMonitor
    cases x with
    | expiry h => exact ht.endSession h .silence
    | declaration =>
      change Steady t.declare
      unfold State.declare
      split
      · exact ht.declareAbsent
      · exact ht.declarePresent
  · exact hs

theorem served {h : HostId} (hst : Served h s t) : Steady t := by
  cases hst with
  | stands => exact hs
  | opened => exact (hs.setSession h fun _ => rfl).of_touches (State.setNotice_touches _ h _)
  | closed => exact hs.endSession h .close
  | portCleared u hu =>
    have kept : Steady u := by
      rcases hu with hu | ⟨_, hu⟩
      · exact hu ▸ hs
      · exact hu ▸ hs.endSession h .portReset
    exact kept.of_touches (u.setPort_touches h _)
  | noticesRead | mapsSet | acknowledged => exact hs.of_touches (s.putNotices_touches h _)
  | holdTaken hfree ho =>
    refine ⟨{ hs.sound with plans := fun hp => ⟨(hs.sound.plans hp).1, rfl⟩ }, fun k hk => ?_⟩
    cases hk
    exact ho
  | holdReleased hh =>
    have htb := s.release_tb h hh
    refine hs.changed (htb ▸ hs.sound.unheld h) (fun k hk => ?_) fun k hk => ?_
    · rw [htb, Timebase.without, if_pos hh] at hk
      split at hk <;> cases hk
    · rw [Open, State.session, (State.discardOnRelease_touches _ h).sessions rfl]
      exact hk
  | started f hlimit hmode href =>
    refine hs.advanced (s.startTimebase_touches f) ?_ (by rw [s.startTimebase_tb]; rfl)
    rw [s.startTimebase_tb]
    exact hs.sound.started f hlimit (by rcases hmode with h | h <;> rw [h] <;> exact nofun) href
  | stopCancelled limit hlimit hmode =>
    have cancelled : Steady (s.setTb { s.tb with pendingStop := false, runLimit := limit }) :=
      hs.advanced (s.setTb_touches _)
        { hs.sound with
          limit := hlimit
          plans := fun hp => hs.sound.plans (by
            simp only [Timebase.hasPlans, State.setTb_tb, Bool.or_false] at hp
            simp [Timebase.hasPlans, hp]) } rfl
    exact cancelled.of_touches (State.tellMode_touches _ _ _)
  | stoppedIdle hmode =>
    have hrun : s.tb.mode ≠ .running := by rcases hmode with h | h <;> rw [h] <;> exact nofun
    obtain ⟨hstaged, hpending⟩ := hs.sound.staged_none hrun
    have stopped : Steady (s.setTb { s.tb with mode := .halted }) :=
      hs.advanced (s.setTb_touches _) (hs.sound.halted (by rw [Timebase.stopped, ← hs.sound.stopped hrun, ← hstaged, ← hpending]; rfl)) rfl
    exact stopped.of_touches (State.tellMode_touches _ _ _)
  | stoppedNow => exact hs.advanced s.stopNow_touches (hs.sound.halted s.stopNow_tb) (by rw [s.stopNow_tb]; rfl)
  | tbSet u hu hh =>
    refine hs.advanced (s.setTb_touches u) (hs.sound.setting hu hh) ?_
    cases hu <;> rfl
  | lengthStaged n hn hh hmode =>
    have staged : Steady (s.setTb { s.tb with staged := some n }) :=
      hs.advanced (s.setTb_touches _)
        { hs.sound with staged := fun k hk => by cases hk; exact hn, plans := fun _ => ⟨hmode, by change s.tb.holder.isSome = _; rw [hh]; rfl⟩ } rfl
    exact staged.of_touches (State.evict_touches _ _ _)
  | lengthApplied n hn hmode hphase =>
    have applied : Steady (s.setTb { s.tb with length := n }) :=
      hs.advanced (s.setTb_touches _) { hs.sound with phase := hphase, length := hn } rfl
    exact (applied.of_touches (State.evict_touches _ _ _)).of_touches (State.tellTimebase_touches _ _ _ _)
  | scheduled o t handle _ _ _ _ ht => exact hs.of_touches (s.insert_joined_touches ht)
  | cancelled e => exact hs.of_touches (s.leave_touches e)
  | groupCancelled => exact hs.of_touches (s.removeQuietly_touches _)
  | claimGranted l => exact (hs.of_touches (s.setClaim_touches l _)).of_touches (State.grantOutput_touches _ l _)
  | claimJoined l | claimQueued l => exact hs.of_touches (s.setClaim_touches l _)
  | released l => exact hs.of_touches (s.releaseHolding_touches h l)
  | placeWithdrawn l => exact hs.of_touches (s.withdrawPlace_touches h l)
  | outputChanged l => exact hs.of_touches (s.setLine_touches l _)
  | channelSetUp c | subscribed c => exact hs.of_touches (s.setChannel_touches c _)
  | unsubscribed c =>
    exact ((hs.of_touches (s.setChannel_touches c _)).of_touches (State.removeEntries_touches _ _ _)).of_touches
      (State.removeReflexes_touches _ _ _)
  | rearmed c => exact hs.of_touches (s.rearm_touches c)
  | reflexSet c | reflexCleared c => exact hs.of_touches (s.setReflex_touches c _)

theorem effect (hst : Effect s t) : Steady t := by
  cases hst with
  | nothing => exact hs
  | request p row block hb =>
    refine s.takeRequest_holds p row block hs (fun tag hs => ?_) (fun hs => hs.arrived p)
      (fun u tag st hu => hu.of_touches (u.placeReply_touches p tag st [])) (fun payload tag ho ha => ?_)
    · exact (hs.of_touches (s.endTransaction_touches p)).of_touches (State.answerBadCrc_touches _ p tag)
    · exact (Steady.served ha (hb.served p payload _ ho)).of_touches (State.placeReply_touches _ p _ _ _)
  | unknown p =>
    unfold State.takeUnknown
    split
    · exact hs
    · split
      · exact hs
      · split
        · rw [s.arrived_eq p]
          exact (hs.arrived p).of_touches (State.placeReply_touches _ p _ _ _)
        · exact (hs.of_touches (s.endTransaction_touches p)).of_touches (State.answerBadCrc_touches _ p _)
  | selected p => exact hs.of_touches (s.selectPort_touches p)
  | clocked p edge sdi => exact hs.of_touches (s.clockPort_touches p edge sdi)
  | endedWithoutFrame p => exact hs.of_touches (s.endWithoutFrame_touches p)
  | abandoned p => exact hs.of_touches (s.abandon_touches p)
  | silence h => exact hs.endSession h .silence
  | ticked => exact hs.runTick
  | cycled | captured => exact hs.refclkCycle
  | synced => exact hs.syncEdge
  | absent => exact hs.countMonitor.declareAbsent
  | present => exact hs.countMonitor.declarePresent
  | driven c level => exact hs.of_touches (s.driveSense_touches c level)
  | reset pins senses =>
    exact ⟨Timebase.reset_sound, nofun⟩
  | period => exact hs.housekeepingPeriod

end Steady

/-- Settles O58: the record is sound behind each equation of its events, and its holder's session stays open until it ends. -/
theorem stepKeepsTheTimebaseSound : Obligations.StepKeepsTheTimebaseSound := by
  intro s t hrange hmisses hplans href h
  refine (steady_iff t).mp (step_holds (P := Steady) (fun _ _ hu => ⟨hu.sound, hu.holder⟩) (fun _ _ hu he => hu.effect he)
    ((steady_iff s).mpr ⟨hrange, hmisses, hplans, href⟩) h)

end Sys2Proof.Machine
end

section
/-! The order of the schedule (R4), and the records of its slots (R2, R3): what placing an entry, taking one out and firing one do to
them. -/

set_option Elab.async false

namespace Sys2Proof.Machine

open Sys2Proof.Safety

/-! ## Due-time order -/

theorem earlier_iff (cur : BitVec 16) (x y : Time) :
    earlier cur x y = true ↔
      leadOf cur x.frame < leadOf cur y.frame ∨ leadOf cur x.frame = leadOf cur y.frame ∧ x.phase < y.phase := by
  simp [earlier]

/-- A time is not later than itself, nor than a time that is not earlier than it. -/
theorem earlier_asymm {cur : BitVec 16} {x y : Time} (h : earlier cur x y = true) : earlier cur y x = false := by
  rw [Bool.eq_false_iff]
  intro h'
  rw [earlier_iff] at h h'
  omega

theorem earlier_of_earlier_of_not {cur : BitVec 16} {x y z : Time} (h : earlier cur x y = true) (h' : earlier cur z y = false) :
    earlier cur x z = true := by
  rw [Bool.eq_false_iff, Ne, earlier_iff] at h'
  rw [earlier_iff] at h ⊢
  omega

/-- The list in due-time order (R4). -/
abbrev InDueOrder (cur : BitVec 16) (es : List Entry) : Prop := es.Pairwise fun x y => earlier cur y.due x.due = false

/-- In a list in order, what an entry is due before, it is due before to the end of the list. -/
theorem InDueOrder.earlier_all {cur : BitVec 16} {e x : Entry} {xs : List Entry} (h : InDueOrder cur (x :: xs))
    (hx : earlier cur e.due x.due = true) : ∀ y ∈ x :: xs, earlier cur e.due y.due = true := by
  intro y hy
  rcases List.mem_cons.mp hy with rfl | hy
  · exact hx
  · exact earlier_of_earlier_of_not hx ((List.pairwise_cons.mp h).1 y hy)

/-- The list splits at the entry's place. -/
theorem placeEntry_split (cur : BitVec 16) (e : Entry) (es : List Entry) (h : InDueOrder cur es) :
    ∃ before behind, es = before ++ behind ∧ placeEntry cur e es = before ++ e :: behind ∧
      (∀ x ∈ before, earlier cur e.due x.due = false) ∧ (∀ x ∈ behind, earlier cur e.due x.due = true) := by
  induction es with
  | nil => exact ⟨[], [], rfl, rfl, nofun, nofun⟩
  | cons x xs ih =>
    cases hx : earlier cur e.due x.due with
    | true => exact ⟨[], x :: xs, rfl, by simp [placeEntry, hx], nofun, h.earlier_all hx⟩
    | false =>
      obtain ⟨before, behind, hes, hplace, hbefore, hbehind⟩ := ih (List.pairwise_cons.mp h).2
      refine ⟨x :: before, behind, by simp [hes], by simp [placeEntry, hx, hplace], fun y hy => ?_, hbehind⟩
      rcases List.mem_cons.mp hy with rfl | hy
      · exact hx
      · exact hbefore y hy

theorem InDueOrder.place {cur : BitVec 16} {es : List Entry} (e : Entry) (h : InDueOrder cur es) :
    InDueOrder cur (placeEntry cur e es) := by
  obtain ⟨before, behind, rfl, hplace, hbefore, hbehind⟩ := placeEntry_split cur e es h
  obtain ⟨hb, hc, hbc⟩ := List.pairwise_append.mp h
  rw [hplace]
  refine List.pairwise_append.mpr ⟨hb, List.pairwise_cons.mpr ⟨fun y hy => earlier_asymm (hbehind y hy), hc⟩, fun x hx y hy => ?_⟩
  rcases List.mem_cons.mp hy with rfl | hy
  · exact hbefore x hx
  · exact hbc x hx y hy

/-- Settles O40: the entry's place splits the list, and the order stands on both sides of it. -/
theorem placeEntryKeepsDueTimeOrder : Obligations.PlaceEntryKeepsDueTimeOrder :=
  fun cur e es h => ⟨InDueOrder.place e h, placeEntry_split cur e es h⟩

/-! ## The slots -/

/-- The list and the use counts: one entry to a slot, under the slot's use count, room for all, recurrences in range (R1 to R3). -/
structure Listed (es : List Entry) (uses : Vector (BitVec 9) 96) : Prop where
  slots : (es.map fun e => e.handle.slot).Nodup
  total : es.length ≤ Config.capacity
  quota : ∀ h, (es.countP fun e => decide (e.owner = h)) ≤ Config.quota
  current : ∀ e ∈ es, uses[e.handle.slot] = e.handle.use
  periods : ∀ e ∈ es, ∀ r ∈ e.recurrence, (1 ≤ r.period ∧ r.period ≤ 255) ∧ r.remaining ≤ 65535

namespace Listed

variable {es : List Entry} {uses : Vector (BitVec 9) 96} (hl : Listed es uses)

include hl

theorem sublist {fs : List Entry} (h : fs.Sublist es) : Listed fs uses where
  slots := hl.slots.sublist (h.map _)
  total := Nat.le_trans h.length_le hl.total
  quota k := Nat.le_trans (h.countP_le) (hl.quota k)
  current e he := hl.current e (h.subset he)
  periods e he := hl.periods e (h.subset he)

/-- The entry of the list in a slot is the only one. -/
theorem eq_of_slot {x y : Entry} (hx : x ∈ es) (hy : y ∈ es) (h : x.handle.slot = y.handle.slot) : x = y :=
  List.inj_on_of_nodup_map hl.slots hx hy h

/-- The list with one entry more, in a free slot, within the counts of R3. -/
theorem cons {e : Entry} (hslot : ∀ x ∈ es, x.handle.slot ≠ e.handle.slot) (htotal : es.length < Config.capacity)
    (hquota : (es.countP fun x => decide (x.owner = e.owner)) < Config.quota) (hcurrent : uses[e.handle.slot] = e.handle.use)
    (hperiods : ∀ r ∈ e.recurrence, (1 ≤ r.period ∧ r.period ≤ 255) ∧ r.remaining ≤ 65535) : Listed (e :: es) uses where
  slots := by
    rw [List.map_cons, List.nodup_cons]
    refine ⟨fun hm => ?_, hl.slots⟩
    obtain ⟨x, hx, hxe⟩ := List.mem_map.mp hm
    exact hslot x hx hxe
  total := htotal
  quota h := by
    rw [List.countP_cons]
    split
    · next he => exact (of_decide_eq_true he) ▸ hquota
    · exact hl.quota h
  current x hx := by
    rcases List.mem_cons.mp hx with rfl | hx
    · exact hcurrent
    · exact hl.current x hx
  periods x hx := by
    rcases List.mem_cons.mp hx with rfl | hx
    · exact hperiods
    · exact hl.periods x hx

theorem perm {fs : List Entry} (h : fs.Perm es) : Listed fs uses where
  slots := (h.map _).nodup_iff.mpr hl.slots
  total := h.length_eq ▸ hl.total
  quota k := h.countP_eq _ ▸ hl.quota k
  current e he := hl.current e (h.subset he)
  periods e he := hl.periods e (h.subset he)

end Listed

/-- An entry that leaves takes its slot out of the list, and the slot's use count rises (R2). -/
theorem Listed.leave {s : State} (hl : Listed s.entries s.uses) (e : Entry) : Listed (s.leave e).entries (s.leave e).uses := by
  have hsub : ((s.leave e).entries).Sublist s.entries := List.eraseP_sublist
  refine { hl.sublist hsub with current := fun x hx => ?_ }
  rw [s.leave_entries e hl.slots, List.mem_filter] at hx
  rw [s.leave_uses, if_neg (by simpa using hx.2)]
  exact hl.current x hx.1

theorem State.mem_leave {s : State} (hl : Listed s.entries s.uses) (e x : Entry) :
    x ∈ (s.leave e).entries ↔ x ∈ s.entries ∧ x.handle.slot ≠ e.handle.slot := by
  rw [s.leave_entries e hl.slots, List.mem_filter]
  simp

/-! ## Firing -/

/-- The due time of an entry's next firing (R18). -/
def Entry.nextDue (e : Entry) (period : Nat) : Time := ⟨e.due.frame + BitVec.ofNat 16 period, e.due.phase⟩

/-- The entry as it goes back to the list (R18). -/
def Entry.next (e : Entry) (r : Recurrence) : Entry :=
  { e with due := e.nextDue r.period, recurrence := some ⟨r.period, r.remaining - 1⟩ }

theorem State.reinsertFails_congr {s u : State} (htb : u.tb = s.tb) (hclaims : u.claims = s.claims) (hentries : u.entries = s.entries)
    (e : Entry) (due : Time) : u.reinsertFails e due = s.reinsertFails e due := by
  unfold State.reinsertFails State.collides
  rw [State.now, State.now, htb, hentries]
  simp only [State.claim, hclaims]

theorem State.rearmBy_takeOut_reinsertFails (s : State) (e : Entry) (due : Time) :
    ((s.rearmBy e.deed).takeOut e).reinsertFails e due = (s.takeOut e).reinsertFails e due := by
  have h := s.rearmBy_touches e.deed
  have hout : ((s.rearmBy e.deed).takeOut e).entries = (s.takeOut e).entries := by
    rw [State.takeOut, State.takeOut, State.setEntries_entries, State.setEntries_entries, h.entries rfl]
  exact State.reinsertFails_congr (s := s.takeOut e) (u := (s.rearmBy e.deed).takeOut e) (h.tb rfl) (h.claims rfl) hout e due

/-- A firing leaves the notices aside what the entry's departure or its return leaves (R17). -/
theorem State.conclude_entries_uses (s : State) (late : Bool) (e : Entry) :
    (s.conclude late e).entries = ((s.rearmBy e.deed).afterFiring e).state.entries ∧
      (s.conclude late e).uses = ((s.rearmBy e.deed).afterFiring e).state.uses := by
  have told (u : State) (h : HostId) (b : NoticeBody) : (u.notify h b).entries = u.entries ∧ (u.notify h b).uses = u.uses :=
    ⟨(u.notify_same h b).entries, (u.notify_same h b).uses⟩
  unfold State.conclude
  dsimp only
  split <;> split <;> simp only [told, and_self]

/-- An entry that fires leaves the list, or goes back to it one period later when its new due time passes both tests (R17 to R19). -/
theorem State.conclude_listed (s : State) (late : Bool) (e : Entry) :
    ((s.conclude late e).entries = (s.leave e).entries ∧ (s.conclude late e).uses = (s.leave e).uses) ∨
      ∃ r ∈ e.recurrence, r.remaining ≠ 1 ∧ (s.takeOut e).reinsertFails e (e.nextDue r.period) = none ∧
        (s.conclude late e).entries = placeEntry s.now.frame (e.next r) (s.takeOut e).entries ∧ (s.conclude late e).uses = s.uses := by
  have hrearm := s.rearmBy_touches e.deed
  have left : ((s.rearmBy e.deed).leave e).entries = (s.leave e).entries ∧ ((s.rearmBy e.deed).leave e).uses = (s.leave e).uses := by
    simp only [State.leave, State.setUse_entries, State.setUse_uses, State.setEntries_entries, hrearm.entries rfl,
      State.setEntries_uses, hrearm.uses rfl, and_self]
  rw [(s.conclude_entries_uses late e).1, (s.conclude_entries_uses late e).2]
  unfold State.afterFiring
  split
  · exact .inl left
  · next r hr =>
    split
    · exact .inl left
    · next hmore =>
      unfold State.continueEntry
      dsimp only
      split
      · exact .inl left
      · next hok =>
        refine .inr ⟨r, hr, hmore, (s.rearmBy_takeOut_reinsertFails e _).symm.trans hok, ?_, hrearm.uses rfl⟩
        simp only [State.reinsert, State.takeOut, State.setEntries_entries, hrearm.entries rfl, State.now, State.setEntries_tb,
          hrearm.tb rfl]
        rfl

theorem State.mem_takeOut {s : State} (hl : Listed s.entries s.uses) (e x : Entry) :
    x ∈ (s.takeOut e).entries ↔ x ∈ s.entries ∧ x.handle.slot ≠ e.handle.slot := by
  rw [State.takeOut, State.setEntries_entries, eraseP_slot _ _ hl.slots, List.mem_filter]
  simp

/-- The entries of other slots stand at a firing (R17). -/
theorem State.mem_conclude_of_ne {s : State} (hl : Listed s.entries s.uses) (late : Bool) {e x : Entry} (hx : x ∈ s.entries)
    (hne : x.handle.slot ≠ e.handle.slot) : x ∈ (s.conclude late e).entries := by
  rcases s.conclude_listed late e with ⟨hentries, _⟩ | ⟨r, _, _, _, hentries, _⟩
  · rw [hentries, State.mem_leave hl]
    exact ⟨hx, hne⟩
  · rw [hentries, mem_placeEntry, State.mem_takeOut hl]
    exact .inr ⟨hx, hne⟩

/-- What the list holds behind a firing: entries of other slots, and at most the entry itself, one period later. -/
theorem State.mem_conclude {s : State} (hl : Listed s.entries s.uses) (late : Bool) {e x : Entry}
    (hx : x ∈ (s.conclude late e).entries) :
    x ∈ s.entries ∧ x.handle.slot ≠ e.handle.slot ∨ ∃ r ∈ e.recurrence, x = e.next r := by
  rcases s.conclude_listed late e with ⟨hentries, _⟩ | ⟨r, hr, _, _, hentries, _⟩
  · rw [hentries, State.mem_leave hl] at hx
    exact .inl hx
  · rw [hentries, mem_placeEntry, State.mem_takeOut hl] at hx
    rcases hx with hx | hx
    · exact .inr ⟨r, hr, hx⟩
    · exact .inl hx

theorem Listed.conclude {s : State} (hl : Listed s.entries s.uses) (late : Bool) {e : Entry} (he : e ∈ s.entries) :
    Listed (s.conclude late e).entries (s.conclude late e).uses := by
  rcases s.conclude_listed late e with ⟨hentries, huses⟩ | ⟨r, hr, _, _, hentries, huses⟩
  · rw [hentries, huses]
    exact hl.leave e
  · rw [hentries, huses]
    have hout : (s.takeOut e).entries = s.entries.eraseP fun x => decide (x.handle.slot = e.handle.slot) := rfl
    have hperm : s.entries.Perm (e :: (s.takeOut e).entries) := by
      obtain ⟨x, before, behind, _, hx, hsplit, herase⟩ :=
        List.exists_of_eraseP he (p := fun x => decide (x.handle.slot = e.handle.slot)) (by simp)
      have hxe : x = e := hl.eq_of_slot (hsplit ▸ by simp) he (of_decide_eq_true hx)
      rw [hout, herase, hsplit, hxe]
      exact List.perm_middle
    have hcons := hl.perm hperm.symm
    have hnext : Listed (e.next r :: (s.takeOut e).entries) s.uses :=
      { slots := hcons.slots
        total := hcons.total
        quota := hcons.quota
        current := fun x hx => by
          rcases List.mem_cons.mp hx with rfl | hx
          · exact hcons.current e List.mem_cons_self
          · exact hcons.current x (List.mem_cons_of_mem _ hx)
        periods := fun x hx => by
          rcases List.mem_cons.mp hx with rfl | hx
          · intro q hq
            cases hq
            have := hcons.periods e List.mem_cons_self r hr
            exact ⟨this.1, Nat.le_trans (Nat.sub_le _ _) this.2⟩
          · exact hcons.periods x (List.mem_cons_of_mem _ hx) }
    exact hnext.perm (placeEntry_perm _ _ _)

end Sys2Proof.Machine
end

section
/-! O59: every step keeps the schedule due later than now, in order and in room. -/

set_option Elab.async false

namespace Sys2Proof.Machine

open Sys2Proof.Safety

/-! ## The due times -/

/-- Every entry is due later than now (with `slack` 1: now or later), within the horizon and below the governing length, in order
(R4, R11). -/
structure DueLater (slack : Nat) (t : Timebase) (es : List Entry) : Prop where
  horizon : ∀ e ∈ es, leadOf t.now.frame e.due.frame ≤ Config.horizon
  later : ∀ e ∈ es, leadOf t.now.frame e.due.frame = 0 → t.now.phase < e.due.phase + slack
  fits : ∀ e ∈ es, e.due.phase < t.governing (leadOf t.now.frame e.due.frame)
  sorted : InDueOrder t.now.frame es

theorem Time.eq_of_parts {x y : Time} (hframe : x.frame = y.frame) (hphase : x.phase = y.phase) : x = y := by
  cases x
  cases y
  simp_all

theorem leadOf_eq_zero_iff (cur f : BitVec 16) : leadOf cur f = 0 ↔ f = cur := by
  unfold leadOf
  bv_omega

/-- A number of frames ahead is the lead of its frame (section 0.3). -/
theorem leadOf_add {n : Nat} (cur : BitVec 16) (hn : n < 65536) : leadOf cur (cur + BitVec.ofNat 16 n) = n := by
  unfold leadOf
  bv_omega

/-- In the next frame every later frame is one frame nearer. -/
theorem leadOf_next {cur f : BitVec 16} (h : leadOf cur f ≠ 0) : leadOf (cur + 1) f + 1 = leadOf cur f := by
  unfold leadOf at h ⊢
  bv_omega

theorem leadOf_ofNat_lead (cur f : BitVec 16) : leadOf 0 (BitVec.ofNat 16 (leadOf cur f)) = leadOf cur f := by
  unfold leadOf
  bv_omega

theorem Timebase.governing_congr {t u : Timebase} (hlength : u.length = t.length) (hstaged : u.staged = t.staged) (n : Nat) :
    u.governing n = t.governing n := by rw [Timebase.governing, Timebase.governing, hlength, hstaged]

namespace DueLater

variable {slack : Nat} {t : Timebase} {es : List Entry} (hd : DueLater slack t es)

include hd

theorem congr {u : Timebase} (hnow : u.now = t.now) (hlength : u.length = t.length) (hstaged : u.staged = t.staged) :
    DueLater slack u es where
  horizon e he := hnow ▸ hd.horizon e he
  later e he := hnow ▸ hd.later e he
  fits e he := by rw [Timebase.governing_congr hlength hstaged, hnow]; exact hd.fits e he
  sorted := hnow ▸ hd.sorted

theorem sublist {fs : List Entry} (h : fs.Sublist es) : DueLater slack t fs where
  horizon e he := hd.horizon e (h.subset he)
  later e he := hd.later e (h.subset he)
  fits e he := hd.fits e (h.subset he)
  sorted := hd.sorted.sublist h

theorem place {e : Entry} (hhorizon : leadOf t.now.frame e.due.frame ≤ Config.horizon)
    (hlater : leadOf t.now.frame e.due.frame = 0 → t.now.phase < e.due.phase + slack)
    (hfits : e.due.phase < t.governing (leadOf t.now.frame e.due.frame)) :
    DueLater slack t (placeEntry t.now.frame e es) where
  horizon x hx := by
    rcases mem_placeEntry.mp hx with rfl | hx
    · exact hhorizon
    · exact hd.horizon x hx
  later x hx := by
    rcases mem_placeEntry.mp hx with rfl | hx
    · exact hlater
    · exact hd.later x hx
  fits x hx := by
    rcases mem_placeEntry.mp hx with rfl | hx
    · exact hfits
    · exact hd.fits x hx
  sorted := hd.sorted.place e

/-- With no entry due at the current time, no slack is needed. -/
theorem strict (hslack : slack = 1) (hnone : ∀ e ∈ es, e.due ≠ t.now) : DueLater 0 t es :=
  { hd with
    later := fun e he hlead => by
      have hlater := hd.later e he hlead
      have hframe := (leadOf_eq_zero_iff _ _).mp hlead
      have hphase : e.due.phase ≠ t.now.phase := fun hp => hnone e he (Time.eq_of_parts hframe hp)
      omega }

/-- One phase on, what was due later is due now or later (R32). -/
theorem nextPhase (hslack : slack = 0) : DueLater 1 { t with now := ⟨t.now.frame, t.now.phase + 1⟩ } es :=
  { hd with
    later := fun e he hlead => by
      have hlater : t.now.phase < e.due.phase + slack := hd.later e he hlead
      dsimp only
      omega }

/-- A wrap that finds no entry of its frame left begins the next frame (R33). -/
theorem wrap (hgone : ∀ e ∈ es, e.due.frame ≠ t.now.frame) (natural : Bool) : DueLater 1 (t.wrapped natural) es := by
  have hlead (e : Entry) (he : e ∈ es) : leadOf (t.now.frame + 1) e.due.frame + 1 = leadOf t.now.frame e.due.frame :=
    leadOf_next fun h => hgone e he ((leadOf_eq_zero_iff _ _).mp h)
  refine ⟨fun e he => ?_, fun e he _ => Nat.zero_lt_succ _, fun e he => ?_, ?_⟩
  · have := hd.horizon e he
    have := hlead e he
    change leadOf (t.now.frame + 1) e.due.frame ≤ _
    omega
  · have hfits := hd.fits e he
    rw [← hlead e he, Timebase.governing, if_neg (Nat.succ_ne_zero _)] at hfits
    change _ < Timebase.governing _ (leadOf (t.now.frame + 1) e.due.frame)
    unfold Timebase.governing
    split <;> exact hfits
  · refine hd.sorted.imp_of_mem fun {x y} hx hy hxy => ?_
    rw [Bool.eq_false_iff, Ne, earlier_iff] at hxy ⊢
    have := hlead x hx
    have := hlead y hy
    change ¬ (leadOf (t.now.frame + 1) y.due.frame < leadOf (t.now.frame + 1) x.due.frame ∨
      leadOf (t.now.frame + 1) y.due.frame = leadOf (t.now.frame + 1) x.due.frame ∧ _)
    omega

/-- A restart counts every lead from frame 0 (R22). -/
theorem relabelled :
    DueLater slack { t with now := ⟨0, 0⟩ }
      (es.map fun e => { e with due := ⟨BitVec.ofNat 16 (leadOf t.now.frame e.due.frame), e.due.phase⟩ }) := by
  have lead (e : Entry) : leadOf 0 (BitVec.ofNat 16 (leadOf t.now.frame e.due.frame)) = leadOf t.now.frame e.due.frame :=
    leadOf_ofNat_lead _ _
  refine ⟨fun x hx => ?_, fun x hx hzero => ?_, fun x hx => ?_, ?_⟩
  · obtain ⟨e, he, rfl⟩ := List.mem_map.mp hx
    change leadOf 0 _ ≤ _
    rw [lead]
    exact hd.horizon e he
  · obtain ⟨e, he, rfl⟩ := List.mem_map.mp hx
    have := hd.later e he ((lead e).symm.trans hzero)
    exact Nat.lt_of_le_of_lt (Nat.zero_le _) this
  · obtain ⟨e, he, rfl⟩ := List.mem_map.mp hx
    have hfits := hd.fits e he
    change _ < Timebase.governing _ (leadOf 0 _)
    rw [lead]
    exact hfits
  · refine List.pairwise_map.mpr (hd.sorted.imp fun {x y} hxy => ?_)
    rw [Bool.eq_false_iff, Ne, earlier_iff] at hxy ⊢
    change ¬ (leadOf 0 _ < leadOf 0 _ ∨ leadOf 0 _ = leadOf 0 _ ∧ _)
    rw [lead, lead]
    exact hxy

end DueLater

/-! ## The schedule -/

/-- The schedule stands in room and in order. -/
structure Scheduled (slack : Nat) (s : State) : Prop where
  listed : Listed s.entries s.uses
  due : DueLater slack s.tb s.entries

theorem scheduled_iff (s : State) :
    Scheduled 0 s ↔ ScheduleInRoom s ∧ HandlesCurrent s ∧ RecurrencesInRange s ∧ ScheduleDueLater s := by
  constructor
  · rintro ⟨⟨slots, total, quota, current, periods⟩, ⟨horizon, later, fits, sorted⟩⟩
    exact ⟨⟨slots, total, quota⟩, current, periods, fun e he => ⟨horizon e he, later e he, fits e he⟩, sorted⟩
  · rintro ⟨⟨slots, total, quota⟩, current, periods, heach, sorted⟩
    exact ⟨⟨slots, total, quota, current, periods⟩, fun e he => (heach e he).1, fun e he => (heach e he).2.1,
      fun e he => (heach e he).2.2, sorted⟩

/-! ### Insertion -/

/-- What the checks on an offer have found when none fails (R7 to R14). -/
structure Offer.Passes (s : State) (o : Offer) : Prop where
  owned : s.ownershipFails o = none
  toggle : s.toggleShared o.deed = false
  mode : s.tb.mode ≠ .refLost
  later : s.offerLate o = false
  horizon : o.ahead ≤ Config.horizon
  fits : o.phase < s.tb.governing o.ahead
  free : s.offerCollides o = false
  total : s.total < Config.capacity
  quota : s.ownCount o.owner < Config.quota

theorem State.offerFails_none {s : State} {o : Offer} : s.offerFails o = none ↔ o.Passes s := by
  unfold State.offerFails
  constructor
  · intro h
    split at h
    · cases h
    · next howned =>
      repeat' (split at h; · cases h)
      exact ⟨howned, Bool.eq_false_iff.mpr ‹_›, ‹_›, Bool.eq_false_iff.mpr ‹_›, Nat.le_of_not_lt ‹_›, Nat.lt_of_not_le ‹_›,
        Bool.eq_false_iff.mpr ‹_›, Nat.lt_of_not_le ‹_›, Nat.lt_of_not_le ‹_›⟩
  · intro h
    rw [h.owned]
    dsimp only
    rw [if_neg (by simp [h.toggle]), if_neg h.mode, if_neg (by simp [h.later]), if_neg (Nat.not_lt.mpr h.horizon),
      if_neg (Nat.not_le.mpr h.fits), if_neg (by simp [h.free]), if_neg (Nat.not_le.mpr h.total), if_neg (Nat.not_le.mpr h.quota)]

/-- What an accepted offer leaves (R2, R14). -/
theorem State.insert_joined {s t : State} {o : Offer} {handle : Handle} (h : s.insert o = .joined t handle) :
    ∃ i, o.Passes s ∧ s.lowestFree = some i ∧ t = s.setEntries (placeEntry s.now.frame (s.entryOf o i) s.entries) ∧
      handle = (s.entryOf o i).handle := by
  unfold State.insert at h
  split at h
  · cases h
  · next hpass =>
    split at h
    · cases h
    · next i hi =>
      cases h
      exact ⟨i, State.offerFails_none.mp hpass, hi, rfl, rfl⟩

/-- The slot of an inserted entry was free (R2). -/
theorem State.lowestFree_free {s : State} {i : SlotId} (h : s.lowestFree = some i) : ∀ e ∈ s.entries, e.handle.slot ≠ i :=
  (s.slotFree_iff i).mp (List.find?_some h)

/-- An offer within the horizon counts its frames ahead by the lead (R10). -/
theorem State.leadOf_dueOf (s : State) {o : Offer} (h : o.ahead ≤ Config.horizon) : leadOf s.now.frame (s.dueOf o).frame = o.ahead :=
  leadOf_add _ (Nat.lt_of_le_of_lt h (by decide))

/-! ### One event among several, with a turn -/

/-- Among events of which one turns what holds into something else, and the others keep both, that something holds at the end. -/
theorem foldl_turn {α : Type} [DecidableEq α] (P Q : State → Prop) (take : State → α → State) (x : α) (xs : List α)
    (hP : ∀ t, P t → ∀ y ∈ xs, y ≠ x → P (take t y)) (hQ : ∀ t, Q t → ∀ y ∈ xs, y ≠ x → Q (take t y))
    (hturn : ∀ t, P t → Q (take t x)) (hcount : xs.count x = 1) (s : State) (hs : P s) : Q (xs.foldl take s) := by
  induction xs generalizing s with
  | nil => exact absurd hcount (by simp)
  | cons y ys ih =>
    rw [List.foldl_cons]
    by_cases hy : y = x
    · subst hy
      have hgone : y ∉ ys := by simpa [List.count_eq_zero] using hcount
      exact foldl_holds Q take ys (fun t ht z hz => hQ t ht z (List.mem_cons_of_mem y hz) fun h => hgone (h ▸ hz)) _ (hturn s hs)
    · exact ih (fun t ht z hz => hP t ht z (List.mem_cons_of_mem y hz)) (fun t ht z hz => hQ t ht z (List.mem_cons_of_mem y hz))
        (by simpa [List.count_cons, hy] using hcount) _ (hP s hs y List.mem_cons_self hy)

theorem State.takeAll_turn {α : Type} [DecidableEq α] (P Q : State → Prop) (take : State → α → State) (x : α) (xs : List α)
    (hchoice : ∀ s n, P s → P (s.setChoices n)) (hP : ∀ t, P t → ∀ y ∈ xs, y ≠ x → P (take t y))
    (hQ : ∀ t, Q t → ∀ y ∈ xs, y ≠ x → Q (take t y)) (hturn : ∀ t, P t → Q (take t x)) (hcount : xs.count x = 1) (s : State)
    (hs : P s) : Q (s.takeAll xs take) := by
  obtain ⟨n, hn⟩ := s.inOrder_state xs
  have hsub := (s.inOrder_perm xs).subset
  refine foldl_turn P Q take x _ (fun t ht y hy => hP t ht y (hsub hy)) (fun t ht y hy => hQ t ht y (hsub hy)) hturn
    (((s.inOrder_perm xs).count_eq x).trans hcount) _ ?_
  rw [hn]
  exact hchoice s n hs

/-! ### The walk -/

/-- An operation that takes an entry of the current frame out of it: the entry leaves the list or goes back to a later frame. -/
structure Dispatches (slack : Nat) (take : State → Entry → State) : Prop where
  keeps : ∀ s e, Scheduled slack s → e ∈ s.entries → e.due.frame = s.now.frame → Scheduled slack (take s e)
  tb : ∀ s e, (take s e).tb = s.tb
  others : ∀ s e x, Listed s.entries s.uses → x ∈ s.entries → x.handle.slot ≠ e.handle.slot → x ∈ (take s e).entries
  gone : ∀ s e x, Scheduled slack s → e ∈ s.entries → e.due.frame = s.now.frame → x ∈ (take s e).entries →
    x ∈ s.entries ∧ x.handle.slot ≠ e.handle.slot ∨ x.due.frame ≠ s.now.frame

namespace Scheduled

variable {slack : Nat} {s t : State} (hs : Scheduled slack s)

include hs

theorem of_touches {m : Touched} (h : OnlyTouches m s t) (htb : m.tb = false := by rfl) (he : m.entries = false := by rfl)
    (hu : m.uses = false := by rfl) : Scheduled slack t where
  listed := by rw [h.entries he, h.uses hu]; exact hs.listed
  due := by rw [h.tb htb, h.entries he]; exact hs.due

/-- The timebase changes in none of what due times are read against. -/
theorem setTb (u : Timebase) (hnow : u.now = s.tb.now := by rfl) (hlength : u.length = s.tb.length := by rfl)
    (hstaged : u.staged = s.tb.staged := by rfl) : Scheduled slack (s.setTb u) := ⟨hs.listed, hs.due.congr hnow hlength hstaged⟩

theorem leave (e : Entry) : Scheduled slack (s.leave e) := ⟨hs.listed.leave e, hs.due.sublist List.eraseP_sublist⟩

theorem notify (h : HostId) (body : NoticeBody) : Scheduled slack (s.notify h body) := hs.of_touches (s.notify_touches h body)

theorem removeEntries (goes : Entry → Bool) (news : Handle → Option NoticeBody) : Scheduled slack (s.removeEntries goes news) := by
  rw [s.removeEntries_fold]
  refine foldl_holds (Scheduled slack) _ _ (fun t ht e _ => ?_) s hs
  unfold State.removeOne
  split
  · exact ht.leave e
  · exact (ht.leave e).notify _ _

theorem insert {o : Offer} {handle : Handle} (h : s.insert o = .joined t handle)
    (hrec : ∀ r ∈ o.recurrence, (1 ≤ r.period ∧ r.period ≤ 255) ∧ r.remaining ≤ 65535) : Scheduled slack t := by
  obtain ⟨i, hpass, hfree, rfl, _⟩ := State.insert_joined h
  have hlead := s.leadOf_dueOf hpass.horizon
  constructor
  · have joined : Listed (s.entryOf o i :: s.entries) s.uses :=
      hs.listed.cons (State.lowestFree_free hfree) hpass.total hpass.quota rfl hrec
    exact joined.perm (placeEntry_perm _ _ _)
  · refine hs.due.place (e := s.entryOf o i) (hlead.symm ▸ hpass.horizon) (fun hzero => ?_) (hlead.symm ▸ hpass.fits)
    have hlater : ¬ (o.ahead = 0 ∧ o.phase ≤ s.now.phase) := fun h => by simpa [State.offerLate, h.1, h.2] using hpass.later
    have hahead : o.ahead = 0 := hlead.symm.trans hzero
    change s.tb.now.phase < o.phase + slack
    have : ¬ o.phase ≤ s.tb.now.phase := fun h => hlater ⟨hahead, h⟩
    omega

theorem conclude (late : Bool) {e : Entry} (he : e ∈ s.entries) (hnow : e.due.frame = s.now.frame) :
    Scheduled slack (s.conclude late e) := by
  refine ⟨hs.listed.conclude late he, ?_⟩
  rw [(s.conclude_touches late e).tb rfl]
  rcases s.conclude_listed late e with ⟨hentries, _⟩ | ⟨r, hr, _, hok, hentries, _⟩
  · rw [hentries]
    exact hs.due.sublist List.eraseP_sublist
  · rw [hentries]
    have hperiod := (hs.listed.periods e he r hr).1
    have hlead : leadOf s.now.frame (e.next r).due.frame = r.period := by
      change leadOf s.now.frame (e.due.frame + BitVec.ofNat 16 r.period) = _
      rw [hnow]
      exact leadOf_add _ (by omega)
    have hhorizon : r.period ≤ Config.horizon := Nat.le_trans hperiod.2 (by decide)
    have hfits : (e.next r).due.phase < s.tb.governing r.period := by
      unfold State.reinsertFails at hok
      split at hok
      · cases hok
      · next hfits =>
        rw [← hlead]
        exact Nat.lt_of_not_le hfits
    have hout : DueLater slack s.tb (s.takeOut e).entries := hs.due.sublist List.eraseP_sublist
    exact hout.place (hlead.symm ▸ hhorizon) (fun hzero => absurd (hlead.symm.trans hzero) (by omega)) (hlead.symm ▸ hfits)

theorem expire (e : Entry) : Scheduled slack (s.expire e) := (hs.leave e).notify _ _

theorem setChannel (c : ChannelId) (r : ChannelRec) : Scheduled slack (s.setChannel c r) := hs.of_touches (s.setChannel_touches c r)

theorem triggerReflex (c : ChannelId) : Scheduled slack (s.triggerReflex c) := by
  unfold State.triggerReflex
  split
  · exact hs
  · split
    · exact hs.insert ‹_› fun x hx => nomatch (show none = some x from hx)
    · exact hs.notify _ _

theorem settleLevel (c : ChannelId) : Scheduled slack (s.settleLevel c) := by
  have settled := hs.setChannel c { s.channel c with settled := (s.channel c).pin, filterCount := 0 }
  unfold State.settleLevel State.takeEdge
  split
  · split
    · exact (((settled.setChannel c _).of_touches (State.notifyEach_touches _ _ _ _)).triggerReflex c).of_touches
        (State.closeGate_touches _ c)
    · exact settled.setChannel c _
  · exact settled

theorem driveSense (c : ChannelId) (level : Level) : Scheduled slack (s.driveSense c level) := by
  unfold State.driveSense
  dsimp only
  split
  · exact (hs.setChannel c _).settleLevel c
  · exact hs.setChannel c _

/-- Behind a fold that dispatches entries of the current frame, those entries are not in it any more. -/
theorem dispatched {take : State → Entry → State} (htake : Dispatches slack take) (gone : List Entry)
    (hslots : (gone.map fun e => e.handle.slot).Nodup) (hgone : ∀ e ∈ gone, e ∈ s.entries ∧ e.due.frame = s.now.frame) :
    Scheduled slack (gone.foldl take s) ∧
      ∀ x ∈ (gone.foldl take s).entries, x ∈ s.entries ∧ x ∉ gone ∨ x.due.frame ≠ s.now.frame := by
  induction gone generalizing s with
  | nil => exact ⟨hs, fun x hx => .inl ⟨hx, by simp⟩⟩
  | cons e rest ih =>
    obtain ⟨he, hframe⟩ := hgone e List.mem_cons_self
    rw [List.map_cons, List.nodup_cons] at hslots
    have hnow : (take s e).now = s.now := by rw [State.now, htake.tb]
    have hrest : ∀ x ∈ rest, x ∈ (take s e).entries ∧ x.due.frame = (take s e).now.frame := by
      intro x hx
      obtain ⟨hxs, hxf⟩ := hgone x (List.mem_cons_of_mem e hx)
      exact ⟨htake.others s e x hs.listed hxs fun h => hslots.1 (List.mem_map.mpr ⟨x, hx, h⟩), hnow ▸ hxf⟩
    obtain ⟨hfold, hleft⟩ := ih (htake.keeps s e hs he hframe) hslots.2 hrest
    refine ⟨hfold, fun x hx => ?_⟩
    rw [List.foldl_cons] at hx
    rcases hleft x hx with ⟨hxe, hxr⟩ | hxf
    · rcases htake.gone s e x hs he hframe hxe with ⟨hxs, hne⟩ | hxf
      · refine .inl ⟨hxs, fun hm => ?_⟩
        rcases List.mem_cons.mp hm with rfl | hm
        · exact hne rfl
        · exact hxr hm
      · exact .inr hxf
    · exact .inr (hnow ▸ hxf)

end Scheduled

theorem conclude_dispatches (slack : Nat) (late : Bool) : Dispatches slack fun s e => s.conclude late e where
  keeps _ _ hs he hnow := hs.conclude late he hnow
  tb s e := (s.conclude_touches late e).tb rfl
  others _ _ _ hl hx hne := State.mem_conclude_of_ne hl late hx hne
  gone s e x hs he hnow hx := by
    rcases State.mem_conclude hs.listed late hx with h | ⟨r, hr, rfl⟩
    · exact .inl h
    · have hperiod := (hs.listed.periods e he r hr).1
      refine .inr fun h => ?_
      change e.due.frame + BitVec.ofNat 16 r.period = _ at h
      rw [hnow] at h
      have hlead := leadOf_add (n := r.period) s.now.frame (by omega)
      rw [h, (leadOf_eq_zero_iff _ _).mpr rfl] at hlead
      omega

theorem overtakeOne_dispatches (slack : Nat) : Dispatches slack State.overtakeOne where
  keeps s e hs he hnow := by
    unfold State.overtakeOne
    split
    · exact hs.conclude true he hnow
    · exact hs.expire e
  tb s e := (s.overtakeOne_touches e).tb rfl
  others s e x hl hx hne := by
    unfold State.overtakeOne
    split
    · exact State.mem_conclude_of_ne hl true hx hne
    · rw [State.expire, (State.notify_same _ _ _).entries, State.mem_leave hl]
      exact ⟨hx, hne⟩
  gone s e x hs he hnow hx := by
    unfold State.overtakeOne at hx
    split at hx
    · exact (conclude_dispatches slack true).gone s e x hs he hnow hx
    · rw [State.expire, (State.notify_same _ _ _).entries, State.mem_leave hs.listed] at hx
      exact .inl hx

/-- The slots of a part of the list are its own. -/
theorem Listed.filter_slots {es : List Entry} {uses : Vector (BitVec 9) 96} (hl : Listed es uses) (p : Entry → Bool) :
    ((es.filter p).map fun e => e.handle.slot).Nodup := hl.slots.sublist (List.filter_sublist.map _)

/-- Once the entries due now have fired, every entry is due later (R15). -/
theorem Scheduled.fireDue {s : State} (hs : Scheduled 1 s) : Scheduled 0 s.fireDue := by
  have grouped : Scheduled 1 (s.applyGroups (s.entries.filter fun e => decide (e.due = s.now))) :=
    hs.of_touches (s.applyGroups_touches _)
  obtain ⟨hfired, hleft⟩ := grouped.dispatched (conclude_dispatches 1 false) (s.entries.filter fun e => decide (e.due = s.now))
    (hs.listed.filter_slots _) fun e he => by
      obtain ⟨hmem, hdue⟩ := List.mem_filter.mp he
      exact ⟨hmem, by rw [of_decide_eq_true hdue]; rfl⟩
  refine ⟨hfired.listed, hfired.due.strict rfl fun x hx hnow => ?_⟩
  have htb : s.fireDue.tb = s.tb := s.fireDue_touches.tb rfl
  have hnow' : x.due = s.tb.now := hnow.trans (congrArg Timebase.now htb)
  rcases hleft x hx with ⟨hmem, hout⟩ | hframe
  · exact hout (List.mem_filter.mpr ⟨hmem, decide_eq_true hnow'⟩)
  · exact hframe (by rw [hnow']; rfl)

/-- Once an aligned wrap has overtaken the entries of the ending frame, none is left of it (R20). -/
theorem Scheduled.overtake {s : State} (hs : Scheduled 0 s) :
    Scheduled 0 s.overtake ∧ ∀ e ∈ s.overtake.entries, e.due.frame ≠ s.tb.now.frame := by
  have grouped : Scheduled 0 (s.applyGroups
      ((s.entries.filter fun e => decide (e.due.frame = s.now.frame)).filter fun e => decide (e.late = .fireLate))) :=
    hs.of_touches (s.applyGroups_touches _)
  obtain ⟨hfired, hleft⟩ := grouped.dispatched (overtakeOne_dispatches 0)
    (s.entries.filter fun e => decide (e.due.frame = s.now.frame)) (hs.listed.filter_slots _) fun e he => by
      obtain ⟨hmem, hdue⟩ := List.mem_filter.mp he
      exact ⟨hmem, of_decide_eq_true hdue⟩
  rw [s.overtake_eq]
  refine ⟨hfired, fun x hx hframe => ?_⟩
  rcases hleft x hx with ⟨hmem, hout⟩ | hne
  · exact hout (List.mem_filter.mpr ⟨hmem, decide_eq_true hframe⟩)
  · exact hne hframe

end Sys2Proof.Machine
end

section
/-! O59, continued: the clock, the requests and the session ends. -/

set_option Elab.async false

namespace Sys2Proof.Machine

open Sys2Proof.Safety

/-! ## A list that fits new lengths -/

/-- A part of the list that fits the new lengths is due later under them. -/
theorem DueLater.refit {slack : Nat} {t u : Timebase} {es fs : List Entry} (hd : DueLater slack t es) (hsub : fs.Sublist es)
    (hnow : u.now = t.now) (hfits : ∀ e ∈ fs, e.due.phase < u.governing (leadOf t.now.frame e.due.frame)) :
    DueLater slack u fs where
  horizon e he := hnow ▸ hd.horizon e (hsub.subset he)
  later e he := hnow ▸ hd.later e (hsub.subset he)
  fits e he := hnow ▸ hfits e he
  sorted := hnow ▸ hd.sorted.sublist hsub

theorem Listed.removeEntries {s : State} (hl : Listed s.entries s.uses) (goes : Entry → Bool) (news : Handle → Option NoticeBody) :
    Listed (s.removeEntries goes news).entries (s.removeEntries goes news).uses := by
  rw [s.removeEntries_fold]
  refine foldl_holds (fun t => Listed t.entries t.uses) _ _ (fun t ht e _ => ?_) s hl
  rw [t.removeOne_entries, t.removeOne_uses]
  exact ht.leave e

/-- An eviction from a list that a new timebase does not fit yet (R21). -/
theorem Scheduled.evicted {slack : Nat} {s t : State} {goes : Entry → Bool} {reason : EvictReason} (hs : Scheduled slack s)
    (hentries : t.entries = s.entries) (huses : t.uses = s.uses) (hnow : t.tb.now = s.tb.now)
    (hfits : ∀ e ∈ s.entries, goes e = false → e.due.phase < t.tb.governing (leadOf s.tb.now.frame e.due.frame)) :
    Scheduled slack (t.evict goes reason) := by
  have hl : Listed t.entries t.uses := by rw [hentries, huses]; exact hs.listed
  refine ⟨hl.removeEntries _ _, ?_⟩
  rw [(t.evict_touches goes reason).tb rfl, t.evict_entries goes reason hl.slots, hentries]
  refine hs.due.refit List.filter_sublist hnow fun e he => ?_
  obtain ⟨hmem, hstays⟩ := List.mem_filter.mp he
  exact hfits e hmem (by simpa using hstays)

/-- The list without what a removal names, under a timebase whose lengths it fits. -/
theorem Scheduled.removed {slack : Nat} {s t : State} {goes : Entry → Bool} {news : Handle → Option NoticeBody}
    (hs : Scheduled slack s) (hentries : t.entries = (s.removeEntries goes news).entries)
    (huses : t.uses = (s.removeEntries goes news).uses) (hnow : t.tb.now = s.tb.now)
    (hfits : ∀ e ∈ s.entries, goes e = false → e.due.phase < t.tb.governing (leadOf s.tb.now.frame e.due.frame)) :
    Scheduled slack t := by
  refine ⟨by rw [hentries, huses]; exact (hs.removeEntries goes news).listed, ?_⟩
  rw [hentries, s.removeEntries_entries goes news hs.listed.slots]
  refine hs.due.refit List.filter_sublist hnow fun e he => ?_
  obtain ⟨hmem, hstays⟩ := List.mem_filter.mp he
  exact hfits e hmem (by simpa using hstays)

/-- What a discard leaves fits the length in effect (R44). -/
theorem Scheduled.fits_of_discard {slack : Nat} {s : State} {u : Timebase} (hs : Scheduled slack s) (hlength : u.length = s.tb.length)
    (hstaged : u.staged = none) (e : Entry) (he : e ∈ s.entries) (hstays : s.discardEvicts e = false) :
    e.due.phase < u.governing (leadOf s.tb.now.frame e.due.frame) := by
  have hfits := hs.due.fits e he
  have hkept : s.tb.staged.isSome = true → s.tb.length ≤ e.due.phase → leadOf s.tb.now.frame e.due.frame = 0 := by
    intro hsome hlen
    rw [State.discardEvicts, hsome, State.outOfRange, decide_eq_true hlen] at hstays
    exact Nat.eq_zero_of_not_pos (of_decide_eq_false hstays)
  unfold Timebase.governing at hfits ⊢
  rw [hstaged, hlength]
  cases hold : s.tb.staged with
  | none =>
    rw [hold] at hfits
    exact hfits
  | some n =>
    split at hfits
    · next hzero => simpa [hzero] using hfits
    · next hahead =>
      rw [if_neg hahead]
      exact Nat.lt_of_not_le fun hlen => hahead (hkept (by rw [hold]; rfl) hlen)

namespace Scheduled

variable {slack : Nat} {s t : State}

/-! ## Wraps and ticks -/

theorem haltIf (hs : Scheduled slack s) (cause : Option TbCause) : Scheduled slack (s.haltIf cause) := by
  cases cause with
  | none => exact hs
  | some cause => exact (hs.setTb _).of_touches (State.tellMode_touches _ _ _)

/-- The entries due at phase 0 of the new frame fire before the wrap is over (R190). -/
theorem afterWrap (hs : Scheduled 1 s) (w : WrapReport) : Scheduled 0 (s.afterWrap w) := by
  have newLength : Scheduled 1 (s.tellNewLength w.newLength) := by
    unfold State.tellNewLength
    split
    · exact hs
    · exact hs.of_touches (s.tellTimebase_touches _ _ _)
  have lost : Scheduled 1 ((s.tellNewLength w.newLength).tellLost w.lost) := by
    unfold State.tellLost
    split
    · exact (newLength.of_touches (State.tellTimebase_touches _ _ _ _)).of_touches (State.alertAll_touches _)
    · exact newLength
  exact (Scheduled.fireDue (lost.of_touches (State.claimedLines_touches _ OutputRec.frameReturned))).haltIf w.halt

theorem tickEffects (hs : Scheduled 1 s) (report : Option WrapReport) : Scheduled 0 (s.tickEffects report) := by
  have counted : Scheduled 1 s.countPulses := hs.of_touches (s.claimedLines_touches OutputRec.countDown)
  cases report with
  | none => exact counted.fireDue
  | some w => exact counted.afterWrap w

/-- No entry of a frame is left at its last phase, since every entry is due later and fits (R11, R32). -/
theorem none_at_last_phase (hs : Scheduled 0 s) (hlast : s.tb.atLastPhase = true) :
    ∀ e ∈ s.entries, e.due.frame ≠ s.tb.now.frame := by
  intro e he hframe
  have hzero := (leadOf_eq_zero_iff s.tb.now.frame e.due.frame).mpr hframe
  have hlater := hs.due.later e he hzero
  have hfits := hs.due.fits e he
  rw [hzero, Timebase.governing, if_pos rfl] at hfits
  have : s.tb.length ≤ s.tb.now.phase + 1 := of_decide_eq_true hlast
  omega

theorem ticked (hs : Scheduled 0 s) : Scheduled 1 (s.setTb s.tb.ticked) := by
  refine ⟨hs.listed, ?_⟩
  rw [State.setTb_tb, State.setTb_entries]
  unfold Timebase.ticked
  split
  · next hlast => exact hs.due.wrap (hs.none_at_last_phase hlast) true
  · exact hs.due.nextPhase rfl

theorem tick (hs : Scheduled 0 s) : Scheduled 0 s.tick := by
  have edges (slack : Nat) (t : State) (ht : Scheduled slack t) : ∀ y ∈ TickEvent.main :: (((s.setTb s.tb.ticked).completing .tick).map
      .edge), y ≠ .main → Scheduled slack (State.takeTickEvent s.tb.tickReport t y) := by
    intro y _ hne
    cases y with
    | main => exact absurd rfl hne
    | edge c => exact ht.settleLevel c
  exact State.takeAll_turn (Scheduled 1) (Scheduled 0) (State.takeTickEvent s.tb.tickReport) TickEvent.main _ (fun t n ht => ht.of_touches (t.setChoices_touches n))
    (fun t ht => edges 1 t ht) (fun t ht => edges 0 t ht) (fun t ht => ht.tickEffects _) (count_main _) _
    (hs.ticked.of_touches (State.sampleAll_touches _ .tick))

theorem refclkCycle (hs : Scheduled 0 s) : Scheduled 0 s.refclkCycle := by
  have sampled := (hs.setTb s.tb.cycled).of_touches (State.sampleAll_touches _ .refclk)
  refine State.takeAll_holds (Scheduled 0) _ _ (fun t n ht => ht.of_touches (t.setChoices_touches n)) (fun t ht x _ => ?_) _ sampled
  cases x with
  | edge c => exact ht.settleLevel c
  | main => exact ht.tick

theorem runTick (hs : Scheduled 0 s) : Scheduled 0 s.runTick := by
  have cycles : ∀ n, ∀ u : State, Scheduled 0 u → Scheduled 0 (u.refclkCycles n) := by
    intro n
    induction n with
    | zero => exact fun _ hu => hu
    | succ n ih => exact fun u hu => ih _ hu.refclkCycle
  unfold State.runTick
  split
  · exact cycles _ s hs
  · exact hs

/-! ## SYNC edges -/

theorem alignedWrap (hs : Scheduled 0 s) : Scheduled 0 s.alignedWrap := by
  obtain ⟨hover, hgone⟩ := hs.overtake
  have htb : s.overtake.tb = s.tb := s.overtake_touches.tb rfl
  have wrapped : Scheduled 1 (s.overtake.setTb (s.overtake.tb.wrapped false)) :=
    ⟨hover.listed, hover.due.wrap (fun e he => htb ▸ hgone e he) false⟩
  exact wrapped.afterWrap _

theorem setBack (hs : Scheduled 0 s) : Scheduled 0 (s.setTb s.tb.setBack) :=
  ⟨hs.listed, { hs.due with later := fun e he hzero => Nat.lt_of_le_of_lt (Nat.zero_le _) (hs.due.later e he hzero) }⟩

theorem syncEdge (hs : Scheduled 0 s) : Scheduled 0 s.syncEdge := by
  unfold State.syncEdge
  split
  · refine ⟨?_, ?_⟩
    · rw [s.syncStart_touches.entries rfl, s.syncStart_touches.uses rfl]
      exact hs.listed
    · rw [s.syncStart_tb, s.syncStart_touches.entries rfl]
      exact hs.due.congr rfl rfl rfl
  · unfold State.takeSyncEdge
    split
    · exact Scheduled.alignedWrap ((hs.setTb _).of_touches (State.tellTimebase_touches _ _ _ _))
    · exact Scheduled.alignedWrap (hs.setTb _)
    · exact hs.setBack
    · exact Scheduled.alignedWrap (hs.of_touches (s.tellTimebase_touches _ _ _))
  · exact hs

/-! ## The timebase's requests and declarations -/

theorem restart (hs : Scheduled 0 s) : Scheduled 0 s.restart := by
  have evicted := hs.removeEntries (fun e => e.recurrence.isNone) fun h => some (.evicted h .restart)
  have htb : (s.evict (fun e => e.recurrence.isNone) .restart).tb = s.tb := (s.evict_touches _ _).tb rfl
  constructor
  · have listed := evicted.listed
    have same {β : Type} (f : Entry → β) (hf : ∀ e due, f { e with due } = f e) (es : List Entry) (g : Entry → Time) :
        (es.map fun e => { e with due := g e }).map f = es.map f := by
      rw [List.map_map]
      exact List.map_congr_left fun e _ => hf e _
    refine ⟨?_, ?_, fun k => ?_, fun e he => ?_, fun e he => ?_⟩
    · change ((List.map _ _).map _).Nodup
      rw [same _ (fun _ _ => rfl)]
      exact listed.slots
    · change (List.map _ _).length ≤ _
      rw [List.length_map]
      exact listed.total
    · change List.countP _ (List.map _ _) ≤ _
      rw [List.countP_map]
      exact listed.quota k
    · obtain ⟨x, hx, rfl⟩ := List.mem_map.mp he
      exact listed.current x hx
    · obtain ⟨x, hx, rfl⟩ := List.mem_map.mp he
      exact listed.periods x hx
  · rw [s.restart_tb]
    have relabelled := evicted.due.relabelled
    rw [show (s.removeEntries (fun e => e.recurrence.isNone) fun h => some (.evicted h .restart)).tb = s.tb from htb] at relabelled
    change DueLater 0 _ (List.map (fun e : Entry =>
      { e with due := ⟨BitVec.ofNat 16 (leadOf (s.evict (fun e => e.recurrence.isNone) .restart).tb.now.frame e.due.frame), e.due.phase⟩ }) _)
    rw [htb]
    exact relabelled

theorem startTimebase (hs : Scheduled 0 s) (f : StartFields) : Scheduled 0 (s.startTimebase f) := by
  have restarted : Scheduled 0 (if f.restart then s.restart else s) := by
    split
    · exact hs.restart
    · exact hs
  exact (restarted.setTb _).of_touches (State.tellTimebase_touches _ _ _ _)

/-- A discard leaves what fits the length in effect (R21, R44). -/
theorem discarded (hs : Scheduled slack s) {u : Timebase} (hnow : u.now = s.tb.now) (hlength : u.length = s.tb.length)
    (hstaged : u.staged = none) : Scheduled slack (s.discardEvict.setTb u) :=
  hs.removed (goes := s.discardEvicts) (news := fun h => some (.evicted h .frameLength)) rfl rfl hnow
    (hs.fits_of_discard hlength hstaged)

theorem discardOnRelease (hs : Scheduled slack s) (h : HostId) : Scheduled slack (s.discardOnRelease h) := by
  have htb : s.discardEvict.tb = s.tb := (s.evict_touches _ _).tb rfl
  unfold State.discardOnRelease
  split
  · refine (Scheduled.of_touches ?_ (State.tellMode_touches _ _ _))
    exact hs.discarded (show s.discardEvict.tb.now = _ by rw [htb]) (show s.discardEvict.tb.length = _ by rw [htb]) rfl
  · exact hs

theorem declareAbsent (hs : Scheduled slack s) : Scheduled slack s.declareAbsent := by
  have htb : s.discardEvict.tb = s.tb := (s.evict_touches _ _).tb rfl
  have gone : Scheduled slack (s.discardEvict.setTb s.discardEvict.tb.refGone) :=
    hs.discarded (show s.discardEvict.tb.now = _ by rw [htb]) (show s.discardEvict.tb.length = _ by rw [htb]) rfl
  have told := (gone.of_touches (State.alertAll_touches _)).of_touches (State.tellMode_touches _ .refLost none)
  unfold State.declareAbsent
  dsimp only
  split
  · exact (told.of_touches (State.tellMode_touches _ _ _)).of_touches (State.claimedLines_touches _ _)
  · exact told.of_touches (State.claimedLines_touches _ _)

theorem declarePresent (hs : Scheduled slack s) : Scheduled slack s.declarePresent :=
  (hs.setTb _).of_touches (State.tellMode_touches _ _ _)

/-- TB_STOP NOW: whichever comes first, the evictions or the notice, the entries that stay fit the length in effect (R42). -/
theorem stopNow (hs : Scheduled 0 s) : Scheduled 0 s.stopNow := by
  have told (news : List StopNews)
      (hnews : news = [.evictions, .stopped] ∨ news = [.stopped] ∧ s.entries.any s.discardEvicts = false) :
      Scheduled 0 ((s.setTb s.tb.stopped).takeAll news (State.tellStop s)) := by
    rcases hnews with rfl | ⟨rfl, hnone⟩
    · refine State.takeAll_turn (fun t => t.tb = s.tb.stopped ∧ t.entries = s.entries ∧ t.uses = s.uses) (Scheduled 0) _ .evictions _ (fun _ _ ht => ht) (fun t ht y _ hne => ?_)
        (fun t ht y _ hne => ?_) (fun t ht => ?_) (by decide) _ ⟨rfl, rfl, rfl⟩
      · obtain ⟨htb, hentries, huses⟩ := ht
        cases y with
        | evictions => exact absurd rfl hne
        | stopped =>
          have hsame := t.tellMode_touches .stop none
          exact ⟨(hsame.tb rfl).trans htb, (hsame.entries rfl).trans hentries, (hsame.uses rfl).trans huses⟩
      · cases y with
        | evictions => exact absurd rfl hne
        | stopped => exact ht.of_touches (t.tellMode_touches .stop none)
      · obtain ⟨htb, hentries, huses⟩ := ht
        exact hs.evicted hentries huses (show t.tb.now = _ by rw [htb]; rfl) fun e he hstays => by
          rw [htb]
          exact hs.fits_of_discard (u := s.tb.stopped) rfl rfl e he hstays
    · refine Scheduled.of_touches (s := s.setTb s.tb.stopped) ⟨hs.listed, ?_⟩ (State.tellMode_touches _ _ _)
      refine hs.due.refit (List.Sublist.refl _) rfl fun e he => hs.fits_of_discard (u := s.tb.stopped) rfl rfl e he ?_
      exact Bool.eq_false_iff.mpr (List.any_eq_false.mp hnone e he)
  unfold State.stopNow
  dsimp only
  have hnews : (if s.entries.any s.discardEvicts then [StopNews.evictions, .stopped] else [.stopped]) = [.evictions, .stopped] ∨
      (if s.entries.any s.discardEvicts then [StopNews.evictions, .stopped] else [.stopped]) = [.stopped] ∧
        s.entries.any s.discardEvicts = false := by
    cases s.entries.any s.discardEvicts
    · exact .inr ⟨rfl, rfl⟩
    · exact .inl rfl
  split
  · exact (told _ hnews).of_touches (State.tellMode_touches _ _ _)
  · exact told _ hnews

theorem applyLength (hs : Scheduled 0 s) (n : Nat) : Scheduled 0 (s.applyLength n) := by
  refine Scheduled.of_touches ?_ (State.tellTimebase_touches _ _ _ _)
  refine hs.evicted rfl rfl rfl fun e he hstays => ?_
  have hphase : e.due.phase < n := by
    refine Nat.lt_of_not_le fun hlen => ?_
    rw [State.outOfRange, decide_eq_true hlen] at hstays
    cases hstays
  have hfits := hs.due.fits e he
  unfold Timebase.governing at hfits ⊢
  split
  · exact hphase
  · next hahead =>
    rw [if_neg hahead] at hfits
    change e.due.phase < s.tb.staged.getD n
    cases hstaged : s.tb.staged with
    | none => exact hphase
    | some m =>
      rw [hstaged] at hfits
      exact hfits

theorem stageLength (hs : Scheduled 0 s) (n : Nat) : Scheduled 0 (s.stageLength n) := by
  refine hs.evicted rfl rfl rfl fun e he hstays => ?_
  have hfits := hs.due.fits e he
  unfold Timebase.governing at hfits ⊢
  split
  · next hzero =>
    rw [if_pos hzero] at hfits
    exact hfits
  · next hahead =>
    change e.due.phase < n
    refine Nat.lt_of_not_le fun hlen => hahead ?_
    rw [State.outOfRange, decide_eq_true hlen] at hstays
    exact Nat.eq_zero_of_not_pos (of_decide_eq_false hstays)

/-! ## Sessions, requests and steps -/

theorem endSession (hs : Scheduled 0 s) (h : HostId) (cause : EndCause) : Scheduled 0 (s.endSession h cause) := by
  have endHold (u : State) (hu : Scheduled 0 u) : Scheduled 0 (u.endHold h) := by
    unfold State.endHold
    split
    · exact (hu.setTb _).discardOnRelease h
    · exact hu
  have endClaim (u : State) (l : LineId) (hu : Scheduled 0 u) : Scheduled 0 (u.endClaim h l) := hu.of_touches (u.endClaim_touches h l)
  have own : Scheduled 0 (s.endOwn h cause) :=
    (((((hs.of_touches (s.setSession_touches h _)).of_touches (State.setNotice_touches _ h _)).removeEntries _ _).of_touches
      (State.removeReflexes_none_touches _ _))).of_touches (State.endSubscriptions_touches _ h)
  have hold : Scheduled 0 (if (s.endOwn h cause).endDiscards h then s.endOwn h cause else (s.endOwn h cause).endHold h) := by
    split
    · exact own
    · exact endHold _ own
  have silent : Scheduled 0 ((s.endOwn h cause).endSilently h) := foldl_holds (Scheduled 0) _ _ (fun t ht l _ => endClaim t l ht) _ hold
  refine State.takeAll_holds (Scheduled 0) _ _ (fun t n ht => ht.of_touches (t.setChoices_touches n)) (fun t ht x _ => ?_) _ silent
  cases x with
  | timebase => exact endHold t ht
  | line l => exact endClaim t l ht

theorem housekeepingPeriod (hs : Scheduled 0 s) : Scheduled 0 s.housekeepingPeriod := by
  have counted : Scheduled 0 s.countPeriod :=
    Scheduled.setTb ((hs.of_touches s.stallChecks_touches).of_touches (State.countTimers_touches _)) _
  unfold State.housekeepingPeriod
  split
  · refine State.takeAll_holds (Scheduled 0) _ _ (fun t n ht => ht.of_touches (t.setChoices_touches n)) (fun t ht x _ => ?_) _
      counted
    cases x with
    | expiry h => exact ht.endSession h .silence
    | declaration =>
      change Scheduled 0 t.declare
      unfold State.declare
      split
      · exact ht.declareAbsent
      · exact ht.declarePresent
  · exact hs

theorem served (hs : Scheduled 0 s) {h : HostId} (hst : Served h s t) : Scheduled 0 t := by
  cases hst with
  | stands => exact hs
  | opened => exact (hs.of_touches (s.setSession_touches h _)).of_touches (State.setNotice_touches _ h _)
  | closed => exact hs.endSession h .close
  | portCleared u hu =>
    have kept : Scheduled 0 u := by
      rcases hu with hu | ⟨_, hu⟩
      · exact hu ▸ hs
      · exact hu ▸ hs.endSession h .portReset
    exact kept.of_touches (u.setPort_touches h _)
  | noticesRead | mapsSet | acknowledged => exact hs.of_touches (s.putNotices_touches h _)
  | holdTaken => exact hs.setTb _
  | holdReleased => exact (hs.setTb _).discardOnRelease h
  | started f => exact hs.startTimebase f
  | stopCancelled | stoppedIdle => exact (hs.setTb _).of_touches (State.tellMode_touches _ _ _)
  | stoppedNow => exact hs.stopNow
  | tbSet u hu => cases hu <;> exact hs.setTb _
  | lengthStaged n => exact hs.stageLength n
  | lengthApplied n => exact hs.applyLength n
  | scheduled o t handle _ _ hrec _ ht => exact hs.insert ht hrec
  | cancelled e => exact hs.leave e
  | groupCancelled => exact hs.removeEntries _ _
  | claimGranted l => exact (hs.of_touches (s.setClaim_touches l _)).of_touches (State.grantOutput_touches _ l _)
  | claimJoined l | claimQueued l => exact hs.of_touches (s.setClaim_touches l _)
  | released l =>
    have cleared (r : ClaimRec) := (((hs.of_touches (s.setClaim_touches l r)).removeEntries (actsFor h l)
      fun x => some (.cancelled x .released))).of_touches (State.removeReflexes_touches _ (fun _ r => r.targets h l) (some .released))
    unfold State.releaseHolding
    dsimp only
    split
    · exact (cleared _).of_touches (State.handOn_touches _ l)
    · exact cleared _
  | placeWithdrawn l => exact hs.of_touches (s.withdrawPlace_touches h l)
  | outputChanged l => exact hs.of_touches (s.setLine_touches l _)
  | channelSetUp c | subscribed c => exact hs.setChannel c _
  | unsubscribed c => exact ((hs.setChannel c _).removeEntries _ _).of_touches (State.removeReflexes_touches _ _ _)
  | rearmed c => exact hs.of_touches (s.rearm_touches c)
  | reflexSet c | reflexCleared c => exact hs.of_touches (s.setReflex_touches c _)

theorem effect (hs : Scheduled 0 s) (hst : Effect s t) : Scheduled 0 t := by
  cases hst with
  | nothing => exact hs
  | request p row block hb =>
    refine s.takeRequest_holds p row block hs (fun tag hs => ?_) (fun hs => hs.of_touches (s.arrived_touches p))
      (fun u tag st hu => hu.of_touches (u.placeReply_touches p tag st [])) (fun payload tag ho ha => ?_)
    · exact (hs.of_touches (s.endTransaction_touches p)).of_touches (State.answerBadCrc_touches _ p tag)
    · exact (Scheduled.served ha (hb.served p payload _ ho)).of_touches (State.placeReply_touches _ p _ _ _)
  | unknown p => exact hs.of_touches (s.takeUnknown_touches p)
  | selected p => exact hs.of_touches (s.selectPort_touches p)
  | clocked p edge sdi => exact hs.of_touches (s.clockPort_touches p edge sdi)
  | endedWithoutFrame p => exact hs.of_touches (s.endWithoutFrame_touches p)
  | abandoned p => exact hs.of_touches (s.abandon_touches p)
  | silence h => exact hs.endSession h .silence
  | ticked => exact hs.runTick
  | cycled | captured => exact hs.refclkCycle
  | synced => exact hs.syncEdge
  | absent => exact Scheduled.declareAbsent (hs.setTb _)
  | present => exact Scheduled.declarePresent (hs.setTb _)
  | driven c level => exact hs.driveSense c level
  | reset pins senses =>
    exact ⟨⟨List.nodup_nil, Nat.zero_le _, fun _ => Nat.zero_le _, nofun, nofun⟩, ⟨nofun, nofun, nofun, List.Pairwise.nil⟩⟩
  | period => exact hs.housekeepingPeriod

end Scheduled

/-- Settles O59: the time moves on by one phase or one frame, and what falls due then leaves the current time before the tick is over;
everything else takes entries away, or puts one in its place. -/
theorem stepKeepsTheScheduleDueLater : Obligations.StepKeepsTheScheduleDueLater := by
  intro s t _ hroom hhandles hperiods hdue h
  exact (scheduled_iff t).mp (step_holds (P := Scheduled 0) (fun _ _ hu => ⟨hu.listed, hu.due⟩) (fun _ _ hu he => hu.effect he)
    ((scheduled_iff s).mpr ⟨hroom, hhandles, hperiods, hdue⟩) h)

end Sys2Proof.Machine
end

section
/-! What the claim table makes of a line's records, as equations, and what a session end makes of every bank (chapter 4, R160). -/

set_option Elab.async false

namespace Sys2Proof.Machine

open Sys2Proof.Safety

/-! ## The records of a line -/

/-- The output record of a line granted with its settings, in a timebase state (R81). -/
def OutputRec.grantedIn (mode : TbMode) (settings : LineSettings) : OutputRec :=
  match mode with
  | .refLost => (OutputRec.granted settings).madeSafe
  | _ => OutputRec.granted settings

/-- The claim record that a line whose last holder has left is handed on with (R93). -/
def ClaimRec.handed (c : ClaimRec) : ClaimRec :=
  match c.waiting with
  | [] => .cleared
  | w :: rest => match w.ask with
    | .exclusive => { state := .exclusive, holders := (Quad.const false).set w.host true, policy := .refuse, waiting := rest }
    | .shared policy =>
      { state := .shared, holders := addHosts (Quad.const false) ((sharedRun (w :: rest)).map Place.host), policy,
        waiting := afterRun (w :: rest) }

/-- The output record that goes with it (R81, R82). -/
def ClaimRec.handedOutput (c : ClaimRec) (mode : TbMode) : OutputRec :=
  match c.waiting with
  | [] => .cleared
  | w :: _ => .grantedIn mode w.settings

/-- The record of a line once the SHARED run at the head of its wait list is admitted (R95). -/
def ClaimRec.admitted (c : ClaimRec) : ClaimRec :=
  if c.state = .shared then
    { c with holders := addHosts c.holders ((sharedRun c.waiting).map Place.host), waiting := afterRun c.waiting }
  else c

/-- The record once a host's place is withdrawn (R95). -/
def ClaimRec.withdrawn (c : ClaimRec) (h : HostId) : ClaimRec :=
  { c with waiting := c.waiting.filter fun w => decide (w.host ≠ h) }.admitted

/-- The record without a host among the holders. -/
def ClaimRec.lacking (c : ClaimRec) (h : HostId) : ClaimRec := { c with holders := c.holders.set h false }

/-- The record once a host has left the holders (R92, R93). -/
def ClaimRec.left (c : ClaimRec) (h : HostId) : ClaimRec := if noHosts (c.lacking h).holders then c.handed else c.lacking h

/-- The output record that goes with it. -/
def ClaimRec.leftOutput (c : ClaimRec) (h : HostId) (mode : TbMode) (r : OutputRec) : OutputRec :=
  if noHosts (c.lacking h).holders then c.handedOutput mode else r

/-- The record once a host's session has ended (R100, R101). -/
def ClaimRec.endedBy (c : ClaimRec) (h : HostId) : ClaimRec :=
  if c.holders.get h then c.left h else if c.awaitedBy h then c.withdrawn h else c

/-- The output record that goes with it. -/
def ClaimRec.endedOutput (c : ClaimRec) (h : HostId) (mode : TbMode) (r : OutputRec) : OutputRec :=
  if c.holders.get h then c.leftOutput h mode r else r

/-! ## What the operations make of them -/

theorem State.grantOutput_line (s : State) (l m : LineId) (settings : LineSettings) :
    (s.grantOutput l settings).line m = if m = l then .grantedIn s.tb.mode settings else s.line m := s.line_setLine l m _

theorem State.tellGranted_claim (s : State) (l m : LineId) (places : List Place) (mode : ClaimMode) (policy : Policy) :
    (s.tellGranted l places mode policy).claim m = s.claim m ∧ (s.tellGranted l places mode policy).line m = s.line m := by
  have h := s.tellGranted_touches l places mode policy
  rw [State.claim, State.line, h.claims rfl, h.lines rfl]
  exact ⟨rfl, rfl⟩

/-- A line handed on to the head of its wait list, or made FREE (R93). -/
theorem State.handOn_line (s : State) (l m : LineId) :
    (s.handOn l).claim m = (if m = l then (s.claim l).handed else s.claim m) ∧
      (s.handOn l).line m = if m = l then (s.claim l).handedOutput s.tb.mode else s.line m := by
  unfold State.handOn ClaimRec.handed ClaimRec.handedOutput
  cases hwaiting : (s.claim l).waiting with
  | nil => exact ⟨s.claim_setClaim l m _, State.line_setLine _ l m _⟩
  | cons w rest =>
    dsimp only
    cases hask : w.ask with
    | exclusive =>
      dsimp only
      rw [(State.tellGranted_claim _ l m _ _ _).1, (State.tellGranted_claim _ l m _ _ _).2, State.grantOutput_line]
      exact ⟨s.claim_setClaim l m _, rfl⟩
    | shared policy =>
      dsimp only
      rw [(State.tellGranted_claim _ l m _ _ _).1, (State.tellGranted_claim _ l m _ _ _).2, State.grantOutput_line]
      exact ⟨s.claim_setClaim l m _, rfl⟩

/-- An empty run admits nobody. -/
theorem afterRun_of_sharedRun_nil {waiting : List Place} (h : sharedRun waiting = []) : afterRun waiting = waiting := by
  unfold sharedRun at h
  unfold afterRun
  have := List.takeWhile_append_dropWhile (p := Place.wantsShared) (l := waiting)
  rwa [h, List.nil_append] at this

theorem State.admitRun_claim (s : State) (l m : LineId) :
    (s.admitRun l).claim m = if m = l then (s.claim l).admitted else s.claim m := by
  have same : (if m = l then s.claim l else s.claim m) = s.claim m := by
    split
    · next h => rw [h]
    · rfl
  unfold State.admitRun ClaimRec.admitted
  dsimp only
  cases hstate : (s.claim l).state with
  | free | exclusive => exact same.symm
  | shared =>
    rw [if_pos rfl]
    cases hrun : sharedRun (s.claim l).waiting with
    | nil =>
      have stands : { s.claim l with state := .shared } = s.claim l := by rw [← hstate]
      rw [afterRun_of_sharedRun_nil hrun]
      refine same.symm.trans ?_
      split
      · exact stands.symm
      · rfl
    | cons w ws =>
      dsimp only
      rw [(State.tellGranted_claim _ l m _ _ _).1]
      exact s.claim_setClaim l m _

theorem State.withdrawPlace_claim (s : State) (h : HostId) (l m : LineId) :
    (s.withdrawPlace h l).claim m = if m = l then (s.claim l).withdrawn h else s.claim m := by
  unfold State.withdrawPlace
  rw [State.admitRun_claim, State.claim_setClaim_same]
  split
  · rfl
  · next hne => rw [State.claim_setClaim, if_neg hne]

theorem State.leaveHolders_line (s : State) (h : HostId) (l m : LineId) :
    (s.leaveHolders h l).claim m = (if m = l then (s.claim l).left h else s.claim m) ∧
      (s.leaveHolders h l).line m = if m = l then (s.claim l).leftOutput h s.tb.mode (s.line l) else s.line m := by
  have lacking : (s.setClaim l ((s.claim l).lacking h)).claim l = (s.claim l).lacking h := s.claim_setClaim_same l _
  have other (hne : m ≠ l) : (s.setClaim l ((s.claim l).lacking h)).claim m = s.claim m := by
    rw [State.claim_setClaim, if_neg hne]
  have handed := State.handOn_line (s.setClaim l ((s.claim l).lacking h)) l m
  rw [lacking] at handed
  change (if noHosts ((s.setClaim l ((s.claim l).lacking h)).claim l).holders then _ else _ : State).claim m = _ ∧
    (if noHosts ((s.setClaim l ((s.claim l).lacking h)).claim l).holders then _ else _ : State).line m = _
  rw [lacking, ClaimRec.left, ClaimRec.leftOutput]
  split
  · refine ⟨handed.1.trans ?_, handed.2.trans ?_⟩
    · split
      · rfl
      · next hne => exact other hne
    · rfl
  · refine ⟨?_, ?_⟩
    · split
      · next hm => rw [hm]; exact lacking
      · next hne => exact other hne
    · split
      · next hm => rw [hm]; rfl
      · rfl

/-- The claim table's part of a session end, on one line (R100, R101). -/
theorem State.endClaim_line (s : State) (h : HostId) (l m : LineId) :
    (s.endClaim h l).claim m = (if m = l then (s.claim l).endedBy h else s.claim m) ∧
      (s.endClaim h l).line m = if m = l then (s.claim l).endedOutput h s.tb.mode (s.line l) else s.line m := by
  have same {β : Type} (f : LineId → β) : f m = if m = l then f l else f m := by
    split
    · next hm => rw [hm]
    · rfl
  unfold State.endClaim ClaimRec.endedBy ClaimRec.endedOutput
  split
  · exact s.leaveHolders_line h l m
  · split
    · exact ⟨s.withdrawPlace_claim h l m, (congrArg (fun ls => ls[m]) ((s.withdrawPlace_touches h l).lines rfl)).trans (same s.line)⟩
    · exact ⟨same s.claim, same s.line⟩

/-! ## Session ends -/

/-- What a session end can see of a line. -/
abbrev lineView (m : LineId) (t : State) : ClaimRec × OutputRec × TbMode := (t.claim m, t.line m, t.tb.mode)

theorem State.endClaim_lineView_same (s : State) (h : HostId) (m : LineId) :
    lineView m (s.endClaim h m) =
      ((s.claim m).endedBy h, (s.claim m).endedOutput h s.tb.mode (s.line m), s.tb.mode) := by
  obtain ⟨hc, hr⟩ := s.endClaim_line h m m
  rw [lineView, hc, hr, if_pos rfl, if_pos rfl, (s.endClaim_touches h m).tb rfl]

theorem State.endClaim_lineView_ne (s : State) (h : HostId) {l m : LineId} (hne : m ≠ l) :
    lineView m (s.endClaim h l) = lineView m s := by
  obtain ⟨hc, hr⟩ := s.endClaim_line h l m
  rw [lineView, hc, hr, if_neg hne, if_neg hne, (s.endClaim_touches h l).tb rfl]

theorem Timebase.without_mode (t : Timebase) (h : HostId) : (t.without h).mode = t.mode := by
  unfold Timebase.without
  split
  · split <;> rfl
  · rfl

theorem State.endHold_lineView (s : State) (h : HostId) (m : LineId) : lineView m (s.endHold h) = lineView m s := by
  have hsame := s.endHold_touches h
  rw [lineView, State.claim, State.line, hsame.claims rfl, hsame.lines rfl, s.endHold_tb, Timebase.without_mode]

theorem count_line (ls : List LineId) (m : LineId) (hls : ls.Nodup) (hm : m ∈ ls) (xs : List EndAnswer)
    (hxs : ∀ x ∈ xs, x = EndAnswer.timebase) : (xs ++ ls.map EndAnswer.line).count (.line m) = 1 := by
  have hnone : EndAnswer.line m ∉ xs := fun h => nomatch hxs _ h
  have hinj : Function.Injective EndAnswer.line := fun _ _ h => EndAnswer.line.inj h
  rw [List.count_append, List.count_eq_zero.mpr hnone, List.count_map_of_injective _ _ hinj, List.count_eq_one_of_mem hls hm]

theorem lineView_eq_iff (m : LineId) (t : State) (c : ClaimRec) (r : OutputRec) (mode : TbMode) :
    lineView m t = (c, r, mode) ↔ t.claim m = c ∧ t.line m = r ∧ t.tb.mode = mode := by
  rw [lineView, Prod.mk.injEq, Prod.mk.injEq]

/-- The end of a host's session, on what it can see of a line. -/
def endLine (h : HostId) (v : ClaimRec × OutputRec × TbMode) : ClaimRec × OutputRec × TbMode :=
  (v.1.endedBy h, v.1.endedOutput h v.2.2 v.2.1, v.2.2)

theorem State.endSession_lineView (s : State) (h : HostId) (cause : EndCause) (m : LineId) :
    lineView m (s.endSession h cause) = endLine h (lineView m s) := by
  have own : lineView m (s.endOwn h cause) = lineView m s := by
    have hsame := s.endOwn_touches h cause
    rw [lineView, State.claim, State.line, hsame.claims rfl, hsame.lines rfl, hsame.tb rfl]
  have hold : lineView m (if (s.endOwn h cause).endDiscards h then s.endOwn h cause else (s.endOwn h cause).endHold h) =
      lineView m s := by
    split
    · exact own
    · exact (State.endHold_lineView _ h m).trans own
  have hothers (t : State) (y : EndAnswer) (hne : y ≠ .line m) : lineView m (State.giveEndAnswer h t y) = lineView m t := by
    cases y with
    | timebase => exact t.endHold_lineView h m
    | line l => exact t.endClaim_lineView_ne h fun hml => hne (by rw [hml])
  have hnodup (p : LineId → Bool) : (allLines.filter p).Nodup := (List.nodup_finRange 12).filter _
  have htimebase (b : Bool) : ∀ x ∈ (if b then [EndAnswer.timebase] else []), x = EndAnswer.timebase := by
    intro x hx
    split at hx
    · exact List.mem_singleton.mp hx
    · exact absurd hx (by simp)
  unfold State.endSession State.endSilently State.endAnswers
  dsimp only
  cases hmoves : (s.endOwn h cause).endMoves h m with
  | true =>
    have hin : m ∈ allLines.filter fun l => (s.endOwn h cause).endMoves h l :=
      List.mem_filter.mpr ⟨List.mem_finRange m, hmoves⟩
    refine (State.takeAll_once (lineView m) (State.giveEndAnswer h) (endLine h) (.line m) _ (fun _ _ => rfl)
      (fun t y _ hne => hothers t y hne) (fun t => t.endClaim_lineView_same h m)
      (count_line _ m (hnodup _) hin _ (htimebase _)) _).trans (congrArg (endLine h) ?_)
    refine (foldl_keeps (lineView m) _ _ (fun t l hl => t.endClaim_lineView_ne h fun hml => ?_) _).trans hold
    have := (List.mem_filter.mp hl).2
    rw [← hml, hmoves] at this
    cases this
  | false =>
    have hin : m ∈ allLines.filter fun l => !(s.endOwn h cause).endMoves h l :=
      List.mem_filter.mpr ⟨List.mem_finRange m, by rw [hmoves]; rfl⟩
    refine (State.takeAll_keeps (lineView m) (State.giveEndAnswer h) _ (fun _ _ => rfl) (fun t y hy => ?_) _).trans ?_
    · refine hothers t y fun hym => ?_
      rw [hym, List.mem_append] at hy
      rcases hy with hy | hy
      · exact nomatch htimebase _ _ hy
      · obtain ⟨l, hl, hlm⟩ := List.mem_map.mp hy
        cases hlm
        rw [List.mem_filter, hmoves] at hl
        cases hl.2
    · exact (foldl_once (lineView m) (fun u l => u.endClaim h l) (endLine h) m _ (fun t l _ hne => t.endClaim_lineView_ne h (Ne.symm hne))
        (fun t => t.endClaim_lineView_same h m) (List.count_eq_one_of_mem (hnodup _) hin) _).trans (congrArg (endLine h) hold)

/-- A session end leaves each line as its own answer leaves it, in whichever order the answers come (R100, R101, R160). -/
theorem State.endSession_line (s : State) (h : HostId) (cause : EndCause) (m : LineId) :
    (s.endSession h cause).claim m = (s.claim m).endedBy h ∧
      (s.endSession h cause).line m = (s.claim m).endedOutput h s.tb.mode (s.line m) := by
  obtain ⟨hclaim, hline, _⟩ := (lineView_eq_iff m _ _ _ _).mp (s.endSession_lineView h cause m)
  exact ⟨hclaim, hline⟩

/-- The ended host's own records closed and flushed, before anything of it leaves the other banks (R149, R160). -/
def State.flushedOf (s : State) (h : HostId) (cause : EndCause) : State :=
  (s.setSession h ((s.session h).ended cause)).setNotice h (s.noticeRec h).flushed

theorem State.endOwn_eq (s : State) (h : HostId) (cause : EndCause) :
    s.endOwn h cause =
      (((s.flushedOf h cause).removeQuietly fun e => decide (e.owner = h)).removeReflexes (fun _ r => decide (r.owner = h))
        none).endSubscriptions h := rfl

theorem State.flushedOf_touches (s : State) (h : HostId) (cause : EndCause) :
    OnlyTouches { sessions := true, notices := true } s (s.flushedOf h cause) :=
  (s.setSession_touches h _).step (State.setNotice_touches _ h _)

/-- The answers to a session end come behind the own part. -/
theorem State.endSession_answers (s : State) (h : HostId) (cause : EndCause) :
    OnlyTouches .answers (s.endOwn h cause) (s.endSession h cause) :=
  (State.endSilently_touches _ h).trans (.takeAll rfl (fun t x _ => State.giveEndAnswer_touches h t x) _)

/-- The channel that a host leaves, if it subscribes (R119). -/
theorem State.endSession_channel (s : State) (h : HostId) (cause : EndCause) (c : ChannelId) :
    (s.endSession h cause).channel c = if (s.channel c).subscribers.get h then (s.channel c).without h else s.channel c := by
  have before : (((s.flushedOf h cause).removeQuietly fun e => decide (e.owner = h)).removeReflexes
      (fun _ r => decide (r.owner = h)) none).channels = s.channels :=
    ((s.flushedOf_touches h cause).step ((State.removeQuietly_touches _ _).step (State.removeReflexes_none_touches _ _)
      (k := { entries := true, uses := true, reflexes := true }))
      (k := { sessions := true, notices := true, entries := true, uses := true, reflexes := true })).channels rfl
  rw [State.channel, (s.endSession_answers h cause).channels rfl, s.endOwn_eq, State.endSubscriptions]
  refine (State.channel_mapChannels _ _ c).trans ?_
  simp only [State.channel, before]

/-- The reflexes of the ended host are gone, and no other (R131). -/
theorem State.endSession_reflex (s : State) (h : HostId) (cause : EndCause) (c : ChannelId) :
    (s.endSession h cause).reflex c = (s.reflex c).filter fun r => !decide (r.owner = h) := by
  have before : ((s.flushedOf h cause).removeQuietly fun e => decide (e.owner = h)).reflexes = s.reflexes :=
    ((s.flushedOf_touches h cause).step (State.removeQuietly_touches _ _)
      (k := { sessions := true, notices := true, entries := true, uses := true })).reflexes rfl
  rw [State.reflex, (s.endSession_answers h cause).reflexes rfl, s.endOwn_eq, (State.endSubscriptions_touches _ h).reflexes rfl,
    State.removeReflexes_reflex, before]

/-- The entries a discard evicts are those that lapse (R21, R44). -/
theorem State.discardEvicts_eq_lapses (s : State) (e : Entry) : s.discardEvicts e = lapses s e := by
  simp only [State.discardEvicts, State.outOfRange, lapses, Bool.not_true, Bool.false_or]
  rw [Bool.and_comm (decide _), Bool.and_assoc]

theorem State.endOwn_entries (s : State) (h : HostId) (cause : EndCause) (hn : (s.entries.map fun e => e.handle.slot).Nodup) :
    (s.endOwn h cause).entries = s.entries.filter fun e => decide (e.owner ≠ h) := by
  have before : (s.flushedOf h cause).entries = s.entries := (s.flushedOf_touches h cause).entries rfl
  rw [s.endOwn_eq, (State.endSubscriptions_touches _ h).entries rfl, (State.removeReflexes_none_touches _ _).entries rfl,
    State.removeQuietly, State.removeEntries_entries _ _ _ (before ▸ hn), before]
  exact List.filter_congr fun e _ => by simp

/-- The hold's part of a session end that discards something (R44, R60). -/
theorem State.endHold_entries (s : State) (h : HostId) (hn : (s.entries.map fun e => e.handle.slot).Nodup)
    (hd : s.endDiscards h = true) : (s.endHold h).entries = s.entries.filter fun e => !lapses s e := by
  simp only [State.endDiscards, Bool.and_eq_true, decide_eq_true_eq] at hd
  obtain ⟨⟨hholder, hmode⟩, hplans⟩ := hd
  unfold State.endHold State.discardOnRelease
  rw [if_pos hholder, if_pos ⟨hmode, hplans⟩, (State.tellMode_touches _ _ _).entries rfl, (State.dropPlans_touches _).entries rfl]
  refine (State.evict_entries (s.setTb { s.tb with holder := none }) _ _ hn).trans (List.filter_congr fun e _ => ?_)
  rw [State.discardEvicts_eq_lapses]
  rfl

theorem State.endHold_entries_kept (s : State) (h : HostId) (hd : s.endDiscards h = false) : (s.endHold h).entries = s.entries := by
  unfold State.endHold State.discardOnRelease
  split
  · next hholder =>
    rw [if_neg]
    · rfl
    · rintro ⟨hmode, hplans⟩
      have : s.endDiscards h = true := by
        simp only [State.endDiscards, hholder, decide_true, Bool.true_and, Bool.and_eq_true, decide_eq_true_eq]
        exact ⟨hmode, hplans⟩
      exact absurd (hd.symm.trans this) Bool.false_ne_true
  · rfl

theorem endDiscards_of_discardedWith {s : State} {h : HostId} {e : Entry} (hd : discardedWith s h e = true) :
    s.endDiscards h = true := by
  simp only [discardedWith, lapses, Bool.and_eq_true, decide_eq_true_eq] at hd
  obtain ⟨⟨hholder, hmode⟩, ⟨hstaged, _⟩, _⟩ := hd
  simp [State.endDiscards, hholder, hmode, Timebase.hasPlans, hstaged]

theorem discardedWith_of_endDiscards {s : State} {h : HostId} (hd : s.endDiscards h = true) (e : Entry) :
    discardedWith s h e = lapses s e := by
  simp only [State.endDiscards, Bool.and_eq_true, decide_eq_true_eq] at hd
  obtain ⟨⟨hholder, hmode⟩, _⟩ := hd
  simp [discardedWith, hholder, hmode]

theorem count_timebase (ls : List LineId) : (EndAnswer.timebase :: ls.map .line).count .timebase = 1 := by
  have : EndAnswer.timebase ∉ ls.map EndAnswer.line := by simp
  rw [List.count_cons_self, List.count_eq_zero.mpr this]

theorem lapses_congr {s t : State} (htb : t.tb = s.tb) (e : Entry) : lapses t e = lapses s e := by
  rw [lapses, lapses, State.leadIn, State.leadIn, State.now, State.now, htb]

theorem State.endClaim_schedule (s : State) (h : HostId) (l : LineId) :
    (s.endClaim h l).entries = s.entries ∧ (s.endClaim h l).tb = s.tb :=
  ⟨(s.endClaim_touches h l).entries rfl, (s.endClaim_touches h l).tb rfl⟩

/-- The answers of the lines leave the list alone. -/
theorem State.lineAnswers_entries (s : State) (h : HostId) (ls : List LineId) :
    (s.takeAll (ls.map .line) (State.giveEndAnswer h)).entries = s.entries := by
  refine State.takeAll_keeps State.entries (State.giveEndAnswer h) _ (fun _ _ => rfl) (fun t y hy => ?_) s
  obtain ⟨l, _, rfl⟩ := List.mem_map.mp hy
  exact (t.endClaim_schedule h l).1

/-- The timebase's answer evicts, wherever it comes among those of the lines. -/
theorem State.discardingAnswers_entries (s : State) (h : HostId) (ls : List LineId)
    (hn : (s.entries.map fun e => e.handle.slot).Nodup) (hd : s.endDiscards h = true) :
    (s.takeAll (.timebase :: ls.map .line) (State.giveEndAnswer h)).entries = s.entries.filter fun e => !lapses s e := by
  refine State.takeAll_turn (fun t => t.tb = s.tb ∧ t.entries = s.entries)
    (fun t => t.entries = s.entries.filter fun e => !lapses s e) (State.giveEndAnswer h) .timebase _ (fun _ _ ht => ht)
    (fun t ht y _ hne => ?_) (fun t ht y _ hne => ?_) (fun t ht => ?_) (count_timebase ls) s ⟨rfl, rfl⟩
  · cases y with
    | timebase => exact absurd rfl hne
    | line l => exact ⟨(t.endClaim_schedule h l).2.trans ht.1, (t.endClaim_schedule h l).1.trans ht.2⟩
  · cases y with
    | timebase => exact absurd rfl hne
    | line l => exact (t.endClaim_schedule h l).1.trans ht
  · obtain ⟨htb, hentries⟩ := ht
    have htd : t.endDiscards h = true := by rw [State.endDiscards, htb]; exact hd
    refine (t.endHold_entries h (hentries ▸ hn) htd).trans ?_
    rw [hentries]
    exact List.filter_congr fun e _ => by rw [lapses_congr htb]

/-- The silent answers evict nothing, and leave the timebase alone where the hold's answer is not among them. -/
theorem State.endSilently_entries (s : State) (h : HostId) :
    (s.endSilently h).entries = s.entries ∧ (s.endDiscards h = true → (s.endSilently h).tb = s.tb) := by
  have held : (if s.endDiscards h then s else s.endHold h).entries = s.entries ∧
      (s.endDiscards h = true → (if s.endDiscards h then s else s.endHold h).tb = s.tb) := by
    split
    · exact ⟨rfl, fun _ => rfl⟩
    · next hd => exact ⟨s.endHold_entries_kept h (Bool.eq_false_iff.mpr hd), fun h' => absurd h' hd⟩
  unfold State.endSilently
  refine ⟨(foldl_keeps State.entries _ _ (fun t l _ => (t.endClaim_schedule h l).1) _).trans held.1, fun hd => ?_⟩
  exact (foldl_keeps State.tb _ _ (fun t l _ => (t.endClaim_schedule h l).2) _).trans (held.2 hd)

/-- What the answers to a session end leave of the list. -/
theorem State.endAnswers_entries (s : State) (h : HostId) (hn : (s.entries.map fun e => e.handle.slot).Nodup) :
    ((s.endSilently h).takeAll (s.endAnswers h) (State.giveEndAnswer h)).entries =
      s.entries.filter fun e => !discardedWith s h e := by
  obtain ⟨hentries, htb⟩ := s.endSilently_entries h
  unfold State.endAnswers
  cases hd : s.endDiscards h with
  | true =>
    have hd' : (s.endSilently h).endDiscards h = true := by rw [State.endDiscards, htb hd]; exact hd
    refine ((s.endSilently h).discardingAnswers_entries h _ (hentries ▸ hn) hd').trans ?_
    rw [hentries]
    exact List.filter_congr fun e _ => by rw [lapses_congr (htb hd), discardedWith_of_endDiscards hd]
  | false =>
    refine ((s.endSilently h).lineAnswers_entries h _).trans (hentries.trans (List.filter_eq_self.mpr fun e _ => ?_).symm)
    rw [Bool.not_eq_true']
    exact Bool.eq_false_iff.mpr fun hde => absurd (hd.symm.trans (endDiscards_of_discardedWith hde)) Bool.false_ne_true

/-- The list without the ended host's entries and without those that the discard of its staged length evicts (R29, R44, R160). -/
theorem State.endSession_entries (s : State) (h : HostId) (cause : EndCause) (hn : (s.entries.map fun e => e.handle.slot).Nodup) :
    (s.endSession h cause).entries = s.entries.filter fun e => decide (e.owner ≠ h) && !discardedWith s h e := by
  have own := s.endOwn_entries h cause hn
  have owntb : (s.endOwn h cause).tb = s.tb := (s.endOwn_touches h cause).tb rfl
  have ownslots : ((s.endOwn h cause).entries.map fun e => e.handle.slot).Nodup := by
    rw [own]
    exact hn.sublist (List.filter_sublist.map _)
  refine ((s.endOwn h cause).endAnswers_entries h ownslots).trans ?_
  rw [own, List.filter_filter]
  refine List.filter_congr fun e _ => ?_
  rw [discardedWith, discardedWith, lapses_congr owntb, owntb]
  exact Bool.and_comm _ _

end Sys2Proof.Machine
end

section
/-! Complete frames: the frame a port takes, the answer of its block, and the statements about the machine and the ports that need
nothing of the blocks. -/

set_option Elab.async false

namespace Sys2Proof.Machine

open Sys2Proof.Safety

/-! ## The frame a port takes -/

theorem allFill_iff (bs : List Byte) : allFill bs = true ↔ ∀ b ∈ bs, b = 255 := by
  simp [allFill]

theorem byte_toNat {n : Nat} (h : n < 256) : (byte n).toNat = n := by
  rw [byte, BitVec.toNat_ofNat]
  exact Nat.mod_eq_of_lt h

theorem byte_ne_fill {n : Nat} (h : n < 255) : byte n ≠ Config.fill := by
  intro heq
  have : (byte n).toNat = 255 := by rw [heq]; rfl
  rw [byte_toNat (by omega)] at this
  omega

/-- A request frame with fill bytes behind it is classified as that frame (R170, R182). -/
theorem classify_requestBytes {code : Nat} (tag : Byte) {payload : List Byte} (padding : Nat) (hcode : code < 255)
    (hlen : payload.length ≤ 48) :
    classify (requestBytes code tag payload ++ List.replicate padding Config.fill) =
      .complete (requestFrame code tag payload) := by
  have hbegin : ∀ bs, allFill (byte code :: bs) = false := fun bs =>
    Bool.eq_false_iff.mpr fun hall => byte_ne_fill hcode ((allFill_iff _).mp hall _ List.mem_cons_self)
  have hcount : (byte payload.length).toNat = payload.length := byte_toNat (by omega)
  have hroom : ¬ Config.maxPayload < payload.length := by simp only [Config.maxPayload]; omega
  simp only [classify, requestBytes, List.cons_append, hbegin, Bool.false_eq_true, if_false, hcount, hroom]
  rw [if_neg (by simp), if_pos]
  · simp [requestFrame]
  · rw [List.append_assoc, List.drop_append]
    simp [allFill, List.drop_eq_nil_of_le]

theorem requestFrame_sound (code : Nat) (tag : Byte) (payload : List Byte) :
    (requestFrame code tag payload).sound = true := by
  simp only [RequestFrame.sound_iff, requestFrame]

theorem takenFrame_of_holds {s : State} {p : HostId} {code : Nat} {tag : Byte} {payload : List Byte} (hcode : code < 255)
    (hlen : payload.length ≤ 48) (h : HoldsRequest s p code tag payload) :
    s.takenFrame p = some (requestFrame code tag payload) := by
  obtain ⟨hshift, padding, hassembly⟩ := h
  simp only [State.takenFrame, hshift, hassembly, classify_requestBytes tag padding hcode hlen]

/-- Settles O6: the classification of a request frame with fill bytes behind it. -/
theorem heldRequestFrameIsTaken : Obligations.HeldRequestFrameIsTaken :=
  fun _ _ code tag payload hcode hlen h => ⟨takenFrame_of_holds hcode hlen h, requestFrame_sound code tag payload⟩

/-! ## The answer of the owning block -/

section Frame

variable {s : State} {p : HostId} {row : RequestRow} {f : RequestFrame} (block : Block) (hf : s.takenFrame p = some f)
  (hc : f.opcode.toNat = row.code) (hs : f.sound = true)

include hf hc hs

/-- A frame of another length is answered BAD_LENGTH (R173, check 3). -/
theorem State.takeRequest_wrongLength (hlen : f.payload.length ≠ row.length) :
    s.takeRequest p row block = (arrived s p).placeReply p f.tag .badLength [] := by
  rw [s.takeRequest_sound p row block f hf hc hs]
  exact if_pos hlen

/-- A frame of a request that needs a session is answered NO_SESSION in a closed one (R173, check 4). -/
theorem State.takeRequest_sessionClosed (hlen : f.payload.length = row.length) (hneeds : row.sessionless = false)
    (hclosed : (s.session p).isOpen = false) :
    s.takeRequest p row block = (arrived s p).placeReply p f.tag .noSession [] := by
  have hclosed : ((arrived s p).session p).isOpen = false := by simpa using hclosed
  rw [s.takeRequest_sound p row block f hf hc hs, State.answerFrame, if_neg (not_not_intro hlen),
    if_pos (by simp [hneeds, hclosed])]

end Frame

section Answered

variable {s : State} {p : HostId} {row : RequestRow} {block : Block} {tag : Byte} {payload : List Byte}

theorem IsRequest.bounds (hb : IsRequest row block) : row.code < 255 ∧ row.length ≤ 48 := by
  cases hb <;> decide

/-- A held request of the right length, in an open session unless it needs none, is answered by its block (R173). -/
theorem IsRequest.answered (hb : IsRequest row block) (h : HoldsRequest s p row.code tag payload)
    (hlen : payload.length = row.length) (ho : row.sessionless = true ∨ Open s p) {t : State} {st : Status} {items : List Byte}
    (hans : block p payload (arrived s p) = ⟨t, st, items⟩) :
    (.next (s.takeRequest p row block) : Host.Outcome State Fault Refusal) = .next (t.placeReply p tag st items) := by
  obtain ⟨hcode, hmax⟩ := hb.bounds
  rw [s.takeRequest_sound p row block _ (takenFrame_of_holds hcode (hlen ▸ hmax) h) (byte_toNat (by omega))
      (requestFrame_sound ..),
    State.answerFrame_block _ p (requestFrame row.code tag payload) row block hlen (by simpa [Open] using ho)]
  change Host.Outcome.next
    ((block p payload (arrived s p)).state.placeReply p tag (block p payload (arrived s p)).status
      (block p payload (arrived s p)).payload) = _
  rw [hans]

/-- A held request of another length is answered BAD_LENGTH. -/
theorem IsRequest.wrongLength (hb : IsRequest row block) (h : HoldsRequest s p row.code tag payload) (hmax : payload.length ≤ 48)
    (hlen : payload.length ≠ row.length) :
    (.next (s.takeRequest p row block) : Host.Outcome State Fault Refusal) =
      .next ((arrived s p).placeReply p tag .badLength []) :=
  have hcode := hb.bounds.1
  congrArg _ (State.takeRequest_wrongLength block (takenFrame_of_holds hcode hmax h) (byte_toNat (by omega))
    (requestFrame_sound ..) hlen)

/-- A held request that needs a session is answered NO_SESSION in a closed one. -/
theorem IsRequest.sessionClosed (hb : IsRequest row block) (h : HoldsRequest s p row.code tag payload)
    (hlen : payload.length = row.length) (hneeds : row.sessionless = false) (hclosed : (s.session p).isOpen = false) :
    (.next (s.takeRequest p row block) : Host.Outcome State Fault Refusal) =
      .next ((arrived s p).placeReply p tag .noSession []) := by
  obtain ⟨hcode, hmax⟩ := hb.bounds
  exact congrArg _ (State.takeRequest_sessionClosed block (takenFrame_of_holds hcode (hlen ▸ hmax) h) (byte_toNat (by omega))
    (requestFrame_sound ..) hlen hneeds hclosed)

end Answered

/-! ## The machine -/

/-- Settles O1: the front command is what `step` takes. -/
theorem stepTakesFrontCommand : Obligations.StepTakesFrontCommand := by
  intro s c rest hq
  simp only [step, hq]

/-- Settles O2: every effect of a command leaves the queue alone. -/
theorem everyCommandCompletesAndKeepsTheQueue : Obligations.EveryCommandCompletesAndKeepsTheQueue := by
  intro c s
  obtain ⟨t, ht, heffect⟩ := exec_effect c s
  refine ⟨t, ht, ?_⟩
  rcases heffect.touches with htouch | ⟨pins, senses, rfl⟩
  · exact htouch.pending
  · rfl

/-- Settles O5: the reset values, record by record. -/
theorem deviceResetRestoresEveryRecord : Obligations.DeviceResetRestoresEveryRecord := by
  intro s level low senses
  refine ⟨_, rfl, rfl, rfl, ?outputs, rfl, s.deviceReset_use _ senses, rfl, ?lines, ?channels, ?hosts⟩
  case outputs =>
    rintro rfl h
    refine ⟨if_pos rfl, ?_⟩
    rw [State.atn, s.deviceReset_noticeRec]
    rfl
  case lines =>
    intro l
    refine ⟨s.deviceReset_line _ senses l, ?_, s.deviceReset_claim _ senses l⟩
    rw [State.pin, s.deviceReset_claim]
    rfl
  case channels => exact fun c => ⟨s.deviceReset_channel _ senses c, s.deviceReset_reflex _ senses c⟩
  case hosts =>
    intro h
    refine ⟨s.deviceReset_session _ senses h, s.deviceReset_noticeRec _ senses h, ?_⟩
    rw [s.deviceReset_port]
    exact ⟨rfl, rfl, rfl, rfl, rfl, rfl, rfl⟩

end Sys2Proof.Machine

end

section
/-! The host ports: what a falling chip select, a clock edge and the end of a transaction do, and the frames that no block sees. -/

set_option Elab.async false

namespace Sys2Proof.Machine

open Sys2Proof.Safety

/-! ## Chip select and clock -/

/-- Settles O8: the outgoing frame is the slot's reply or the EMPTY frame. -/
theorem chipSelectFallingChoosesTheOutgoingFrame : Obligations.ChipSelectFallingChoosesTheOutgoingFrame := by
  intro s p hidle
  have hexec : exec (.chipSelectFalling p) s = .next (if s.resetN then s.setPort p (s.port p).selected else s) := by
    change Host.Outcome.next (s.selectPort p) = _
    simp only [State.selectPort, hidle]
  refine ⟨fun hlow => ?_, fun hhigh => ⟨(s.port p).nextOutgoing, ?_, fun hnone => ?_, fun r hr => ?_⟩⟩
  · simp only [hexec, hlow, Bool.false_eq_true, if_false]
  · simp only [hexec, hhigh, if_true]
    rfl
  · rw [PortRec.nextOutgoing, hnone]
    exact congrArg (fun crc => [3, 0, 0, 0, crc]) crc8_emptyFrame
  · refine ⟨_, rfl, ?_⟩
    rw [PortRec.nextOutgoing, hr]
    exact r.bytes_eq

theorem bitsOf_length (b : Byte) : (bitsOf b).length = 8 := rfl

theorem bitsOf_getD (b : Byte) (i : Fin 8) (x : Bool) : (bitsOf b).getD i.val x = b.getMsbD i.val := by
  rw [bitsOf_eq_map_getMsbD]
  simp

theorem flatMap_bitsOf_length (bs : List Byte) : (bs.flatMap bitsOf).length = 8 * bs.length := by
  simp [List.length_flatMap, bitsOf_length, Nat.mul_comm]

/-- Bit `i` of the byte behind `before` is bit `8 * before.length + i` of the frame (R167). -/
theorem frameBit (before behind : List Byte) (out : Byte) (i : Fin 8) :
    ((before ++ out :: behind).flatMap bitsOf).getD (8 * before.length + i.val) true = out.getMsbD i.val := by
  rw [List.flatMap_append, List.flatMap_cons, ← flatMap_bitsOf_length, List.getD_append_right _ _ _ _ (Nat.le_add_right ..),
    Nat.add_sub_cancel_left, List.getD_append _ _ _ _ (by rw [bitsOf_length]; exact i.isLt), bitsOf_getD]

/-- The data output while RESET_N is high, by the state of the transaction (R166, R167, R177). -/
theorem State.sdo_eq {s : State} (hr : s.resetN = true) (p : HostId) :
    s.sdo p = match (s.port p).transaction with
      | .idle => none
      | .shifting => some (((s.port p).outgoing.flatMap bitsOf).getD (s.port p).bitsOut true)
      | .abandoned => some true :=
  if_neg (by simp [hr])

/-- The record of a shifting port after a rising clock edge (R166, R177). -/
def PortRec.risen (r : PortRec) (sdi : Level) : PortRec := { r with stall := 0 }.sampleBit sdi

/-- One rising clock edge of a shifting port. -/
theorem exec_rising {s : State} {p : HostId} (r : PortRec) (hr : r.transaction = .shifting) (sdi : Level) :
    exec (.spiClockEdge p .rising sdi) (s.setPort p r) = .next (s.setPort p (r.risen sdi)) := by
  change Host.Outcome.next ((s.setPort p r).clockPort p .rising sdi) = _
  simp only [State.clockPort, State.port_setPort_same, hr, State.setPort_setPort, PortRec.risen]

theorem PortRec.risen_transaction (r : PortRec) (sdi : Level) : (r.risen sdi).transaction = r.transaction := by
  unfold PortRec.risen PortRec.sampleBit
  split <;> rfl

/-- One rising edge behind another (R166). -/
def clockIn (p : HostId) (o : Host.Outcome State Fault Refusal) (bit : Bool) : Host.Outcome State Fault Refusal :=
  match o with
  | .next t => exec (.spiClockEdge p .rising bit) t
  | other => other

theorem foldl_clockIn {s : State} {p : HostId} (bits : List Bool) (r : PortRec) (hr : r.transaction = .shifting) :
    bits.foldl (clockIn p) (.next (s.setPort p r)) =
      .next (s.setPort p (bits.foldl PortRec.risen r)) := by
  induction bits generalizing r with
  | nil => rfl
  | cons bit bits ih =>
    rw [List.foldl_cons, List.foldl_cons, ← ih _ ((r.risen_transaction bit).trans hr)]
    exact congrArg (List.foldl (clockIn p) · bits) (exec_rising r hr bit)

theorem byteOfBits_bitsOf (b : Byte) : byteOfBits (bitsOf b) = b := by
  revert b
  decide

/-- Eight samples spell one byte (R166; log entry 4). -/
theorem foldl_risen (b : Byte) (r : PortRec) (hbits : r.bits = []) :
    (bitsOf b).foldl PortRec.risen r =
      { r with assembly := r.assembly ++ [b], bytesOut := r.bytesOut + 1, stall := 0 } := by
  conv_rhs => rw [← byteOfBits_bitsOf b]
  simp [bitsOf, PortRec.risen, PortRec.sampleBit, hbits]

/-- Settles O9: the edges one by one, eight rising ones folded. -/
theorem eightRisingEdgesShiftOneByte : Obligations.EightRisingEdgesShiftOneByte := by
  intro s p b
  refine ⟨fun hr => ⟨fun ht => ?_, fun ht => ⟨fun before behind out i hout hbit => ?_, fun hpast => ?_⟩, fun ht => ?_⟩,
    fun ht hbits => ?_, fun ht sdi => ?_, fun ht edge sdi => ?_⟩
  · simp only [State.sdo_eq hr, ht]
  · simp only [State.sdo_eq hr, ht, hout, hbit, frameBit]
  · rw [← flatMap_bitsOf_length] at hpast
    simp only [State.sdo_eq hr, ht, List.getD_eq_default _ _ hpast]
  · simp only [State.sdo_eq hr, ht]
  · have hself : s.setPort p (s.port p) = s := by simp [State.setPort]
    have hshift := foldl_clockIn (s := s) (p := p) (bitsOf b) (s.port p) ht
    rw [hself, foldl_risen b (s.port p) hbits] at hshift
    exact hshift
  · change Host.Outcome.next (s.clockPort p .falling sdi) = _
    simp only [State.clockPort, ht]
  · change Host.Outcome.next (s.clockPort p edge sdi) = _
    rcases ht with ht | ht <;> simp only [State.clockPort, ht]

/-! ## Transactions without a frame -/

theorem State.endTransaction_eq (s : State) (p : HostId) : s.endTransaction p = transactionOver s p := rfl

theorem classify_idle {bs : List Byte} (h : ∀ b ∈ bs, b = 255) : classify bs = .idle :=
  if_pos ((allFill_iff bs).mpr h)

/-- An assembly that holds neither fill alone nor a complete frame is a runt or over-long (R170). -/
theorem classify_incomplete {bs : List Byte} (hbegun : ∃ b ∈ bs, b ≠ 255)
    (h : bs.length ≤ 2 ∨
      ∃ op tag len rest, bs = op :: tag :: len :: rest ∧
        (48 < len.toNat ∨ rest.length ≤ len.toNat ∨ ∃ b ∈ rest.drop (len.toNat + 1), b ≠ 255)) :
    classify bs = .runt ∨ classify bs = .overLong := by
  have hfill : ¬ allFill bs = true := fun hall =>
    let ⟨b, hb, hne⟩ := hbegun
    hne ((allFill_iff bs).mp hall b hb)
  unfold classify
  rw [if_neg hfill]
  rcases h with hshort | ⟨op, tag, len, rest, rfl, h⟩
  · match bs, hshort with
    | [], _ => exact .inl rfl
    | [_], _ => exact .inl rfl
    | [_, _], _ => exact .inl rfl
  · simp only
    split
    · exact .inr rfl
    · next hlong =>
      split
      · exact .inl rfl
      · next hrunt =>
        obtain ⟨b, hb, hne⟩ : ∃ b ∈ rest.drop (len.toNat + 1), b ≠ 255 := by
          rcases h with h | h | h
          · exact absurd h hlong
          · exact absurd (Nat.lt_succ_iff.mpr h) hrunt
          · exact h
        exact .inr (if_neg fun hall => hne ((allFill_iff _).mp hall b hb))

/-- A stalled transaction, as its port's record (R177). -/
theorem State.abandon_eq (s : State) (p : HostId) (h : (s.port p).transaction = .shifting) :
    s.abandon p = s.setPort p (stalled (s.port p)) := by
  have hfill : (∃ b ∈ (s.port p).assembly, b ≠ 255) ↔ ¬ allFill (s.port p).assembly = true := by
    simp [allFill_iff]
  unfold State.abandon
  simp only [h]
  split
  · next hall =>
    simp only [stalled, if_neg (show ¬ ∃ b ∈ (s.port p).assembly, b ≠ 255 from fun hex => hfill.mp hex hall)]
    rfl
  · next hall =>
    simp only [State.countFrameError, State.port_setPort_same, State.setPort_setPort, stalled, if_pos (hfill.mpr hall)]
    rfl

/-- Settles O10: the ends of a transaction, by the class of its assembly. -/
theorem transactionsThatEndWithoutAFrame : Obligations.TransactionsThatEndWithoutAFrame := by
  intro s p
  refine ⟨fun ht hidle => ?_, fun ht hbegun hshape => ?_, fun ht => ?_, fun ht hstall => ?_, fun h => ?_⟩
  · change Host.Outcome.next (s.endWithoutFrame p) = _
    simp only [State.endWithoutFrame, ht, classify_idle hidle, s.endTransaction_eq p]
  · change Host.Outcome.next (s.endWithoutFrame p) = _
    rcases classify_incomplete hbegun hshape with hc | hc <;>
      simp only [State.endWithoutFrame, ht, hc, s.endTransaction_eq p, State.countFrameError] <;>
      simp [transactionOver]
  · change Host.Outcome.next (s.endWithoutFrame p) = _
    simp only [State.endWithoutFrame, ht]
  · have hnext : s.stallsNext p = true := decide_eq_true (Nat.succ_le_succ hstall)
    change Host.Outcome.next (if s.stallsNext p then s.abandon p else s) = _
    rw [if_pos hnext, s.abandon_eq p ht]
  · change Host.Outcome.next (if s.stallsNext p then s.abandon p else s) = _
    split
    · next hnext =>
      have hstall : 64 ≤ (s.port p).stall + 1 := of_decide_eq_true hnext
      have ht : (s.port p).transaction ≠ .shifting := h.resolve_right (by omega)
      unfold State.abandon
      cases htr : (s.port p).transaction with
      | shifting => exact absurd htr ht
      | idle => rfl
      | abandoned => rfl
    · rfl

/-! ## Frames that no block sees -/

/-- Each row of Table 10-3 is a request: its command takes the frame for its block. -/
theorem requestRows_take :
    ∀ r ∈ requestRows, ∃ block, IsRequest r.2 block ∧ ∀ p s, exec (r.1 p) s = .next (s.takeRequest p r.2 block) := by
  simp only [requestRows, List.forall_mem_append, List.forall_mem_cons, List.not_mem_nil, false_implies, implies_true, and_true]
  refine ⟨⟨⟨⟨⟨⟨⟨⟨?_, ?_, ?_, ?_, ?_, ?_⟩, ?_, ?_, ?_⟩, ?_, ?_, ?_, ?_, ?_, ?_, ?_, ?_, ?_⟩, ?_, ?_, ?_, ?_, ?_⟩, ?_, ?_⟩,
    ?_, ?_, ?_, ?_, ?_⟩, ?_, ?_, ?_, ?_, ?_⟩, ?_, ?_⟩
  all_goals exact ⟨_, by constructor, fun _ _ => rfl⟩

theorem requestRows_rows : requestRows.map Prod.snd = requestTable := rfl

theorem namesRequest_eq_false {opcode : Byte} (h : ∀ r ∈ requestRows, opcode.toNat ≠ r.2.code) : namesRequest opcode = false := by
  rw [namesRequest, ← requestRows_rows, List.any_map, List.any_eq_false]
  exact fun r hr heq => h r hr (of_decide_eq_true heq).symm

/-- Settles O12: the refusals of the port itself. -/
theorem portRefusesBeforeAnyBlock : Obligations.PortRefusesBeforeAnyBlock := by
  intro s p f hf hs
  refine ⟨fun hnone => ?_, fun r hr hc => ?_⟩
  · change Host.Outcome.next (s.takeUnknown p) = _
    simp only [State.takeUnknown, hf, namesRequest_eq_false hnone, hs, if_true, Bool.false_eq_true, if_false, s.arrived_eq p]
  · obtain ⟨block, -, hexec⟩ := requestRows_take r hr
    rw [hexec]
    exact ⟨fun hlen => congrArg _ (State.takeRequest_wrongLength block hf hc hs hlen),
      fun hlen hneeds hclosed => congrArg _ (State.takeRequest_sessionClosed block hf hc hs hlen hneeds hclosed)⟩

/-- FRAME_ERROR in the record of an open session (R143, R146). -/
theorem State.flagFrameError_noticeRec (s : State) (h k : HostId) :
    (s.flagFrameError h).noticeRec k =
      if k = h ∧ (s.session h).isOpen = true then
        { s.noticeRec h with
          conditions := { (s.noticeRec h).conditions with frameError := true }, attention := true }
      else s.noticeRec k := by
  unfold State.flagFrameError
  split
  · next ho =>
    rw [State.noticeRec, s.putNotices_notices, Quad.get_set]
    by_cases hk : k = h <;> simp [hk, NoticeRec.wantsAttention, Conditions.any, ho]
  · next ho => simp [ho]

section BadCrc

variable (s : State) (p : HostId) (tag : Byte)

/-- A frame error counted, flagged and answered, record by record (R172). -/
theorem State.answerBadCrc_port (k : HostId) (hne : k ≠ p) : (s.answerBadCrc p tag).port k = s.port k := by
  rw [State.answerBadCrc, State.port, State.placeReply_port_ne _ _ _ _ hne, (State.flagFrameError_same _ p).ports,
    State.countFrameError]
  exact Quad.get_set_ne _ _ hne

theorem State.answerBadCrc_noticeRec (k : HostId) :
    (s.answerBadCrc p tag).noticeRec k = (s.flagFrameError p).noticeRec k := by
  rw [State.answerBadCrc, State.noticeRec, State.placeReply_notices]
  change ((s.countFrameError p).flagFrameError p).noticeRec k = _
  rw [State.flagFrameError_noticeRec, State.flagFrameError_noticeRec]
  rfl

theorem State.answerBadCrc_answers : Answers (s.answerBadCrc p tag) p tag .badCrc [] := by
  refine ⟨?_, ?_⟩
  · rw [State.answerBadCrc, State.port, State.placeReply_port_same]
  · rw [State.answerBadCrc, State.port, State.placeReply_port_same]
    exact ⟨_, rfl, rfl, rfl, rfl, rfl, rfl⟩

theorem State.answerBadCrc_own_port :
    ((s.answerBadCrc p tag).port p).transaction = (s.port p).transaction ∧
      ((s.answerBadCrc p tag).port p).frameErrors = min ((s.port p).frameErrors + 1) 255 := by
  rw [State.answerBadCrc, State.port, State.placeReply_port_same, (State.flagFrameError_same _ p).ports, State.countFrameError,
    State.setPort_ports, Quad.get_set_same]
  exact ⟨rfl, rfl⟩

end BadCrc

/-- The command of a complete frame with a wrong CRC, whatever its opcode (R172). -/
theorem exec_badCrc {s : State} {p : HostId} {f : RequestFrame} {c : Instr} (hf : s.takenFrame p = some f) (hs : f.sound = false)
    (hc : (∃ r ∈ requestRows, f.opcode.toNat = r.2.code ∧ c = r.1 p) ∨
      (∀ r ∈ requestRows, f.opcode.toNat ≠ r.2.code) ∧ c = .badOpcodeFrame p) :
    exec c s = .next ((s.endTransaction p).answerBadCrc p f.tag) := by
  rcases hc with ⟨r, hr, hcode, rfl⟩ | ⟨hnone, rfl⟩
  · obtain ⟨block, -, hexec⟩ := requestRows_take r hr
    rw [hexec, s.takeRequest_unsound p r.2 block f hf hcode hs]
  · change Host.Outcome.next (s.takeUnknown p) = _
    simp only [State.takeUnknown, hf, namesRequest_eq_false hnone, hs, Bool.false_eq_true, if_false]

/-- Settles O11: the answer to a wrong CRC, record by record. -/
theorem badCrcIsCountedAndAnswered : Obligations.BadCrcIsCountedAndAnswered := by
  intro s p f c hf hs hc
  have htouch := (s.endTransaction_touches p).step (k := { ports := true, notices := true })
    (State.answerBadCrc_touches (s.endTransaction p) p f.tag)
  have hrec : ∀ k, ((s.endTransaction p).answerBadCrc p f.tag).noticeRec k = (s.flagFrameError p).noticeRec k := fun k => by
    rw [State.answerBadCrc_noticeRec, State.flagFrameError_noticeRec, State.flagFrameError_noticeRec]
    rfl
  have hown : ((s.endTransaction p).port p) = { (s.port p).readOut with transaction := .idle } := State.port_setPort_same ..
  obtain ⟨hidle, herrors⟩ := State.answerBadCrc_own_port (s.endTransaction p) p f.tag
  rw [hown] at hidle herrors
  refine ⟨_, exec_badCrc hf hs hc,
    ⟨htouch.tb rfl, htouch.entries rfl, htouch.uses rfl, htouch.lines rfl, htouch.claims rfl, htouch.channels rfl,
      htouch.reflexes rfl⟩,
    fun k hne => ⟨?_, ?_, ?_⟩, htouch.sessions rfl, hidle, herrors, State.answerBadCrc_answers .., ?_, ?_, fun ho => ?_,
    fun ho => ?_⟩
  · rw [State.answerBadCrc_port _ p _ k hne]
    exact Quad.get_set_ne _ _ hne
  · rw [State.session, htouch.sessions rfl]
  · rw [hrec, State.flagFrameError_noticeRec, if_neg fun h => hne h.1]
  · rw [hrec, State.flagFrameError_noticeRec]
    split <;> rfl
  · rw [hrec, State.flagFrameError_noticeRec]
    split <;> rfl
  · rw [hrec, State.flagFrameError_noticeRec, if_pos ⟨rfl, ho⟩]
    exact ⟨rfl, rfl⟩
  · rw [hrec, State.flagFrameError_noticeRec, if_neg fun h => ho h.2]

end Sys2Proof.Machine

end

section
/-! The requests that answer from one record: the sessionless ones, the notice unit's, and the timebase's settings. -/

set_option Elab.async false

namespace Sys2Proof.Machine

open Sys2Proof.Safety

/-! ## The records a request arrives at -/

theorem State.arrived_number (s : State) (p h : HostId) : ((arrived s p).session h).number = (s.session h).number := by
  rw [State.session, s.arrived_session p h]

theorem State.arrived_endCause (s : State) (p h : HostId) : ((arrived s p).session h).endCause = (s.session h).endCause := by
  rw [State.session, s.arrived_session p h]

theorem State.arrived_silenceLimit (s : State) (p h : HostId) :
    ((arrived s p).session h).silenceLimit = (s.session h).silenceLimit := by
  rw [State.session, s.arrived_session p h]

theorem State.arrived_watch (s : State) (p h : HostId) : ((arrived s p).session h).watch = (s.session h).watch := by
  rw [State.session, s.arrived_session p h]

theorem State.arrived_noticeRec (s : State) (p h : HostId) : (arrived s p).noticeRec h = s.noticeRec h := rfl

theorem State.arrived_open {s : State} {p : HostId} (h : HostId) (ho : Open s h) : ((arrived s p).session h).isOpen = true := by
  simpa [Open] using ho

/-- Replacing a host's notice record stores it with its attention output settled (R146). -/
theorem State.putNotices_eq (s : State) (h : HostId) (r : NoticeRec) :
    s.putNotices h r = s.setNotice h { r with attention := r.wantsAttention (s.session h).isOpen } := by
  simp only [State.putNotices, State.settle, State.noticeRec_setNotice_same, State.setNotice_setNotice]
  rfl

/-! ## The port and the session table -/

/-- Settles O14: NOP through the checks of the port. -/
theorem nopIsAnsweredEmpty : Obligations.NopIsAnsweredEmpty := by
  intro s p tag
  refine ⟨fun h => ?_, fun payload hne hmax h => ?_, fun f hf hop hs => ?_⟩
  · refine (IsRequest.nop.answered h rfl (.inl rfl) rfl).trans ?_
    simp only [State.placeReply, State.port, s.arrived_port_same, PortRec.prevUnread, PortRec.readOut, Bool.and_assoc]
    rfl
  · exact IsRequest.nop.wrongLength h hmax fun hlen => hne (List.length_eq_zero_iff.mp hlen)
  · have htouch := (s.endTransaction_touches p).step (k := { ports := true, notices := true })
      (State.answerBadCrc_touches (s.endTransaction p) p f.tag)
    have hcode : f.opcode.toNat = 0 := by rw [hop]; rfl
    refine ⟨_, congrArg Host.Outcome.next (s.takeRequest_unsound p ⟨0, 0, true⟩ nopBlock f hf hcode hs),
      ⟨htouch.tb rfl, htouch.entries rfl, htouch.uses rfl, htouch.lines rfl, htouch.claims rfl, htouch.channels rfl,
        htouch.reflexes rfl⟩, htouch.sessions rfl, State.answerBadCrc_answers ..⟩

theorem State.arrived_session_closed {s : State} {p : HostId} (hc : (s.session p).isOpen = false) :
    (arrived s p).session p = s.session p := by
  simp [arrived, hc, transactionOver]

/-- Settles O15: the two outcomes of OPEN. -/
theorem openStartsASession : Obligations.OpenStartsASession := by
  intro s p tag limit watch w h hwatch
  refine ⟨fun hc => ?_, fun ho => ?_⟩
  · refine IsRequest.opening.answered h rfl (.inl rfl) ?_
    have hzero : (limit.toNat = 0) = (limit = 0) := propext ⟨fun h => BitVec.eq_of_toNat_eq h, fun h => by rw [h]; rfl⟩
    simp only [openBlock, hwatch, State.arrived_session_closed hc, hc, Bool.false_eq_true, if_false, State.accept,
      SessionRec.opened, hzero]
    rfl
  · refine IsRequest.opening.answered h rfl (.inl rfl) ?_
    simp only [openBlock, hwatch, State.arrived_open (p := p) p ho, if_true, State.refuse, s.arrived_number p p]

/-- Settles O19: the records as they stand before the arrival. -/
theorem sessionlessStatusRequestsReport : Obligations.SessionlessStatusRequestsReport := by
  intro s p tag
  refine ⟨fun h => IsRequest.hostStatus.answered h rfl (.inl rfl) ?_, fun h => IsRequest.tbStatus.answered h rfl (.inl rfl) ?_⟩
  · simp only [hostStatusBlock, State.accept, s.arrived_number, s.arrived_endCause, s.arrived_silenceLimit, s.arrived_watch,
      s.arrived_noticeRec, State.session, s.arrived_isOpen, State.port, s.arrived_port_same, PortRec.readOut]
  · simp only [tbStatusBlock, State.accept, s.arrived_tb, Timebase.statusBytes]
    cases s.tb.staged <;> rfl

/-- Settles O20: the fixed items of IDENT. -/
theorem identNamesThePart : Obligations.IdentNamesThePart :=
  fun _ _ _ h => IsRequest.ident.answered h rfl (.inl rfl) rfl

/-! ## The notice unit -/

/-- A notice's bytes behind the first: number, stamp and kind fields (R187). -/
theorem Notice.bytes_eq (number : Byte) (urgent : Bool) (stamp : Time) (body : NoticeBody) :
    Notice.bytes ⟨number, urgent, stamp, body⟩ =
      [byte (body.kind.code + body.flagBits + if urgent then 16 else 0), number] ++ bytes2 stamp.frame.toNat ++
        bytes3 stamp.phase ++ body.fieldBytes := by
  simp only [Notice.bytes, timeBytes, Nat.add_right_comm _ (if urgent then 16 else 0)]
  simp only [List.append_assoc]

/-- A request of the notice unit that replaces its host's record in an open session (R146). -/
theorem IsRequest.noticesAnswered {s : State} {p : HostId} {row : RequestRow} {block : Block} {tag : Byte} {payload : List Byte}
    (hb : IsRequest row block) (h : HoldsRequest s p row.code tag payload) (hlen : payload.length = row.length) (ho : Open s p)
    {r : NoticeRec} {items : List Byte} (hans : block p payload (arrived s p) = ((arrived s p).putNotices p r).accept items) :
    (.next (s.takeRequest p row block) : Host.Outcome State Fault Refusal) =
      .next (((arrived s p).setNotice p { r with attention := r.wantsAttention true }).placeReply p tag .ok items) := by
  rw [State.putNotices_eq, State.arrived_open p ho] at hans
  exact hb.answered h hlen (.inr ho) hans

theorem NoticeRec.dropN_held (r : NoticeRec) (n : Nat) : (r.dropN n).held = r.held.drop n := by
  simp only [NoticeRec.held, NoticeRec.dropN, List.drop_append]

/-- Settles O21: the layouts by kind, and the reading of the queue. -/
theorem readNoticesTakesUrgentFirst : Obligations.ReadNoticesTakesUrgentFirst := by
  refine ⟨fun number urgent stamp lead hlead => ?layouts, fun s p tag n h ho => ⟨fun hn => ?read, fun hn => ?refused⟩⟩
  case layouts =>
    have bytes (body : NoticeBody) :
        Notice.bytes ⟨number, urgent, stamp, body⟩ = lead (body.kind.code + body.flagBits) ++ body.fieldBytes := by
      rw [Notice.bytes_eq, hlead]
    simp only [bytes]
    refine ⟨fun slot use action target level late final remaining => ⟨?_, fun channel => ?_⟩, fun channel edge sequence => ?_,
      fun slot use target => ?expired, fun slot use reason => ?_, fun slot use reason => ?_, fun channel status reason => ⟨rfl, rfl⟩,
      fun line mode policy => rfl, fun mode cause length news misses => ⟨rfl, ?_, rfl⟩⟩
    case expired => cases target <;> simp [NoticeBody.kind, NoticeKind.code, NoticeBody.flagBits, NoticeBody.fieldBytes,
      Handle.bytes, targetByte]
    all_goals simp [NoticeBody.kind, NoticeKind.code, NoticeBody.flagBits, NoticeBody.fieldBytes, Handle.bytes, firedTail, Nat.add_assoc]
  case read =>
    refine ⟨_, IsRequest.readNotices.noticesAnswered h rfl ho (r := (s.noticeRec p).dropN n.toNat) ?_,
      (s.noticeRec p).dropN_held n.toNat, rfl, rfl, NoticeRec.wantsAttention_open_iff _⟩
    simp only [readNoticesBlock, if_neg (show ¬ (n.toNat = 0 ∨ 4 < n.toNat) by omega)]
    rfl
  case refused =>
    refine IsRequest.readNotices.answered h rfl (.inr ho) ?_
    simp only [readNoticesBlock, if_pos hn]
    rfl

theorem kindSetOf_eq {hi lo : Byte} (h : number2 hi lo < 2048) : kindSetOf hi lo = some (BitVec.ofNat 11 (number2 hi lo)) :=
  if_pos h

theorem kindSetOf_eq_none {hi lo : Byte} (h : 2048 ≤ number2 hi lo) : kindSetOf hi lo = none := if_neg h.not_gt

/-- Settles O22: both sets are read, or the request is refused. -/
theorem setNoticeMapsReplacesBothMaps : Obligations.SetNoticeMapsReplacesBothMaps := by
  intro s p tag u1 u0 a1 a0 h ho
  refine ⟨fun ⟨hu, ha⟩ => ?_, fun hbad => ?_⟩
  · refine ⟨_, IsRequest.setNoticeMaps.noticesAnswered h rfl ho
      (r := { s.noticeRec p with
        urgencyMap := BitVec.ofNat 11 (number2 u1 u0), attentionMask := BitVec.ofNat 11 (number2 a1 a0) }) ?_,
      Nat.mod_eq_of_lt hu, Nat.mod_eq_of_lt ha, rfl, NoticeRec.wantsAttention_open_iff _⟩
    simp only [setNoticeMapsBlock, kindSetOf_eq hu, kindSetOf_eq ha]
    rfl
  · refine IsRequest.setNoticeMaps.answered h rfl (.inr ho) ?_
    rcases hbad with hbad | hbad
    · simp only [setNoticeMapsBlock, kindSetOf_eq_none hbad]
      rfl
    · simp only [setNoticeMapsBlock, kindSetOf_eq_none hbad]
      cases kindSetOf u1 u0 <;> rfl

/-- Settles O23: the named flags, or the refusal. -/
theorem ackConditionsClearsTheNamedFlags : Obligations.AckConditionsClearsTheNamedFlags := by
  intro s p tag b h
  refine ⟨fun hc => IsRequest.ackConditions.sessionClosed h rfl rfl hc, fun ho hb => ?_, fun ho hb => ?_⟩
  · refine ⟨_, IsRequest.ackConditions.noticesAnswered h rfl ho
      (r := (s.noticeRec p).acknowledge ⟨b.getLsbD 0, b.getLsbD 1, b.getLsbD 2⟩) ?_,
      rfl, rfl, rfl, rfl, rfl, NoticeRec.wantsAttention_open_iff _⟩
    simp only [ackConditionsBlock, conditionsOf, if_pos hb]
    rfl
  · refine IsRequest.ackConditions.answered h rfl (.inr ho) ?_
    simp only [ackConditionsBlock, conditionsOf, if_neg hb.not_gt]
    rfl

/-! ## The timebase's settings -/

/-- Settles O25: the hold by its holder. -/
theorem tbHoldGrantsOnlyAFreeHold : Obligations.TbHoldGrantsOnlyAFreeHold := by
  intro s p tag h
  refine ⟨fun hc => IsRequest.tbHold.sessionClosed h rfl rfl hc, fun ho hfree => ?_, fun ho hown => ?_, fun k hne ho hk => ?_⟩
  all_goals refine IsRequest.tbHold.answered h rfl (.inr ho) ?_
  · simp only [tbHoldBlock, s.arrived_tb, hfree]
    rfl
  · simp only [tbHoldBlock, s.arrived_tb, hown, if_true]
    rfl
  · simp only [tbHoldBlock, s.arrived_tb, hk, if_neg hne]
    rfl

/-- Settles O30: the settings by holder and state. -/
theorem tbSetSyncAndPrescaleRecordTheirValues : Obligations.TbSetSyncAndPrescaleRecordTheirValues := by
  intro s p tag ho
  refine ⟨fun b w2 w1 w0 m h hmode => ⟨fun hwide => ?_, fun hfits hout => ?_, fun hfits hown => ?_⟩,
    fun b h => ⟨fun hout => ?_, fun hown hmode => ?_, fun hown hmode => ?_⟩⟩
  · refine IsRequest.tbSetSync.answered h rfl (.inr ho) ?_
    simp only [tbSetSyncBlock, hmode, s.arrived_tb, hwide, if_true]
    rfl
  · refine IsRequest.tbSetSync.answered h rfl (.inr ho) ?_
    simp only [tbSetSyncBlock, hmode, s.arrived_tb, hfits.not_gt, hout, if_false]
    rfl
  · refine IsRequest.tbSetSync.answered h rfl (.inr ho) ?_
    simp only [tbSetSyncBlock, hmode, s.arrived_tb, hfits.not_gt, hown, if_false, if_true]
    rfl
  all_goals refine IsRequest.tbSetPrescale.answered h rfl (.inr ho) ?_
  · simp only [tbSetPrescaleBlock, s.arrived_tb, hout, if_false]
    rfl
  · rcases hmode with hmode | hmode <;>
      simp only [tbSetPrescaleBlock, s.arrived_tb, hown, if_true, hmode] <;> rfl
  · rcases hmode with hmode | hmode <;>
      simp only [tbSetPrescaleBlock, s.arrived_tb, hown, if_true, hmode] <;> rfl

/-- Settles O31: READ_TIME, and the clock's rows outside RUNNING. -/
theorem readTimeReportsTheCurrentTime : Obligations.ReadTimeReportsTheCurrentTime := by
  intro s p tag
  refine ⟨fun h => IsRequest.readTime.answered h rfl (.inl rfl) rfl, fun hmode c hc => ?_⟩
  have hrun : s.runTick = s := if_neg hmode
  have hcycle : s.refclkCycle.tb = { s.tb with monitor := { s.tb.monitor with edgeSeen := true } } := by
    rw [s.refclkCycle_tb, Timebase.afterCycle]
    simp [Timebase.cycled, Timebase.tickDue, hmode]
  have hstands (c : Instr) (b : Bool) (hexec : exec c s = .next (if b then s.runTick else s)) :
      ∃ t, exec c s = .next t ∧ t.tb.now = s.tb.now ∧ t.tb.mode = s.tb.mode ∧ t.tb.length = s.tb.length := by
    rw [hrun, ite_self] at hexec
    exact ⟨s, hexec, rfl, rfl, rfl⟩
  rcases hc with rfl | rfl | rfl | rfl | rfl
  · exact hstands .tick true rfl
  · refine ⟨_, rfl, ?_⟩
    cases s.resetN with
    | true => rw [if_pos rfl, hcycle]; exact ⟨rfl, rfl, rfl⟩
    | false => rw [if_neg Bool.false_ne_true]; exact ⟨rfl, rfl, rfl⟩
  · exact hstands .naturalWrap s.tb.atLastPhase rfl
  · exact hstands .runLimit (decide (s.tb.atLastPhase ∧ s.tb.runLimit = 1)) (by simp [exec, execRunLimit])
  · exact hstands .syncLost (decide (s.tb.atLastPhase ∧ s.tb.losesLock true)) (by simp [exec, execSyncLost])

end Sys2Proof.Machine

end

section
/-! The fields of requests that name no value (R184, Table 10-1), and the requests refused for them. -/

set_option Elab.async false

namespace Sys2Proof.Machine

open Sys2Proof.Safety

/-! ## Bytes that name no value -/

theorem byte_ne_of_lt {b : Byte} {n : Nat} (h : n ≤ b.toNat) (c : Byte) (hc : c.toNat < n) : b ≠ c := by
  rintro rfl
  omega

theorem boolOf_eq_none {b : Byte} (h : 2 ≤ b.toNat) : boolOf b = none := by
  rw [boolOf, if_neg (byte_ne_of_lt h 0 (by decide)), if_neg (byte_ne_of_lt h 1 (by decide))]

theorem lineOf_eq_none {b : Byte} (h : 12 ≤ b.toNat) : lineOf b = none := dif_neg h.not_gt

theorem channelOf_eq_none {b : Byte} (h : 8 ≤ b.toNat) : channelOf b = none := dif_neg h.not_gt

theorem tagOf_eq_none {b : Byte} (h : 16 ≤ b.toNat) : tagOf b = none := dif_neg h.not_gt

theorem lineOf_eq {b : Byte} {l : LineId} (h : b.toNat = l.val) : lineOf b = some l := by
  have hlt : b.toNat < 12 := h ▸ l.isLt
  rw [lineOf, dif_pos hlt]
  exact congrArg some (Fin.ext h)

theorem channelOf_eq {b : Byte} {c : ChannelId} (h : b.toNat = c.val) : channelOf b = some c := by
  have hlt : b.toNat < 8 := h ▸ c.isLt
  rw [channelOf, dif_pos hlt]
  exact congrArg some (Fin.ext h)

theorem latePolicyOf_eq_none {b : Byte} (h : 2 ≤ b.toNat) : latePolicyOf b = none := by
  rw [latePolicyOf, if_neg (byte_ne_of_lt h 0 (by decide)), if_neg (byte_ne_of_lt h 1 (by decide))]

theorem claimModeOf_eq_none {b : Byte} (h : 2 ≤ b.toNat) : claimModeOf b = none := by
  rw [claimModeOf, if_neg (byte_ne_of_lt h 0 (by decide)), if_neg (byte_ne_of_lt h 1 (by decide))]

theorem syncModeOf_eq_none {b : Byte} (h : 2 ≤ b.toNat) : syncModeOf b = none := by
  rw [syncModeOf, if_neg (byte_ne_of_lt h 0 (by decide)), if_neg (byte_ne_of_lt h 1 (by decide))]

theorem policyOf_eq_none {b : Byte} (h : 3 ≤ b.toNat) : policyOf b = none := by
  rw [policyOf, if_neg (byte_ne_of_lt h 0 (by decide)), if_neg (byte_ne_of_lt h 1 (by decide)),
    if_neg (byte_ne_of_lt h 2 (by decide))]

theorem safeOf_eq_none {b : Byte} (h : 3 ≤ b.toNat) : safeOf b = none := by
  rw [safeOf, if_neg (byte_ne_of_lt h 0 (by decide)), if_neg (byte_ne_of_lt h 1 (by decide)),
    if_neg (byte_ne_of_lt h 2 (by decide))]

theorem edgeSelectionOf_eq_none {b : Byte} (h : 3 ≤ b.toNat) : edgeSelectionOf b = none := by
  rw [edgeSelectionOf, if_neg (byte_ne_of_lt h 0 (by decide)), if_neg (byte_ne_of_lt h 1 (by decide)),
    if_neg (byte_ne_of_lt h 2 (by decide))]

theorem filterOf_eq_none {b : Byte} (h : 3 ≤ b.toNat) : filterOf b = none := by
  rw [filterOf, if_neg (byte_ne_of_lt h 0 (by decide)), if_neg (byte_ne_of_lt h 1 (by decide)),
    if_neg (byte_ne_of_lt h 2 (by decide))]

/-! ## Fields taken together -/

theorem settingsOf_eq_none {idle ret safe : Byte} (h : 2 ≤ idle.toNat ∨ 2 ≤ ret.toNat ∨ 3 ≤ safe.toNat) :
    settingsOf idle ret safe = none := by
  simp only [settingsOf, Option.bind_eq_bind, Option.bind_eq_none_iff]
  intro i hi r hr v hv
  exfalso
  rcases h with h | h | h
  · rw [boolOf_eq_none h] at hi
    cases hi
  · rw [boolOf_eq_none h] at hr
    cases hr
  · rw [safeOf_eq_none h] at hv
    cases hv

theorem askOf_eq_none {mode policy : Byte} (h : 2 ≤ mode.toNat ∨ mode = 1 ∧ 3 ≤ policy.toNat) : askOf mode policy = none := by
  rcases h with h | ⟨rfl, h⟩
  · rw [askOf, claimModeOf_eq_none h]
  · exact congrArg (Option.map Ask.shared) (policyOf_eq_none h)

theorem claimOf_eq_none {line mode wait idle ret safe policy : Byte}
    (h : 12 ≤ line.toNat ∨ 2 ≤ mode.toNat ∨ 2 ≤ wait.toNat ∨ 2 ≤ idle.toNat ∨ 2 ≤ ret.toNat ∨ 3 ≤ safe.toNat ∨
      mode = 1 ∧ 3 ≤ policy.toNat) : claimOf [line, mode, wait, idle, ret, safe, policy] = none := by
  simp only [claimOf, Option.bind_eq_bind, Option.bind_eq_none_iff]
  intro l hl ask hask waits hwaits settings hsettings
  exfalso
  rcases h with h | h | h | h | h | h | h
  · rw [lineOf_eq_none h] at hl
    cases hl
  · rw [askOf_eq_none (.inl h)] at hask
    cases hask
  · rw [boolOf_eq_none h] at hwaits
    cases hwaits
  · rw [settingsOf_eq_none (.inl h)] at hsettings
    cases hsettings
  · rw [settingsOf_eq_none (.inr (.inl h))] at hsettings
    cases hsettings
  · rw [settingsOf_eq_none (.inr (.inr h))] at hsettings
    cases hsettings
  · rw [askOf_eq_none (.inr h)] at hask
    cases hask

theorem lineActionOf_eq_none {action : Byte} {width : Nat} (h : 4 ≤ action.toNat ∨ action = 3 ∧ width = 0) :
    lineActionOf action width = none := by
  rcases h with h | ⟨rfl, rfl⟩
  · rw [lineActionOf, if_neg (byte_ne_of_lt h 0 (by decide)), if_neg (byte_ne_of_lt h 1 (by decide)),
      if_neg (byte_ne_of_lt h 2 (by decide)), if_neg (byte_ne_of_lt h 3 (by decide))]
  · rfl

theorem reflexDeedOf_eq_mark {action target : Byte} {width : Nat} (h : reflexDeedOf action target width = some .mark) :
    action = 5 := by
  unfold reflexDeedOf at h
  split at h
  · assumption
  · simp only [Option.bind_eq_bind, Option.bind_eq_some_iff] at h
    obtain ⟨_, _, _, _, h⟩ := h
    cases h

theorem reflexDeedOf_eq_none {action target : Byte} {width : Nat}
    (h : action = 4 ∨ 6 ≤ action.toNat ∨ action ≠ 5 ∧ 12 ≤ target.toNat ∨ action = 3 ∧ width = 0) :
    reflexDeedOf action target width = none := by
  have hmark : action ≠ 5 := by
    rcases h with rfl | h | h | ⟨rfl, -⟩
    · decide
    · exact byte_ne_of_lt h 5 (by decide)
    · exact h.1
    · decide
  rw [reflexDeedOf, if_neg hmark]
  simp only [Option.bind_eq_bind, Option.bind_eq_none_iff]
  intro k hk l hl
  exfalso
  rcases h with rfl | h | ⟨-, h⟩ | h
  · cases hk
  · rw [lineActionOf_eq_none (.inl (by omega))] at hk
    cases hk
  · rw [lineOf_eq_none h] at hl
    cases hl
  · rw [lineActionOf_eq_none (.inr h)] at hk
    cases hk

theorem notifyOf_eq_none {isMark : Bool} {b : Byte} (hmark : isMark = false) (h : 2 ≤ b.toNat) : notifyOf isMark b = none := by
  rw [hmark]
  exact boolOf_eq_none h

theorem reflexOf_eq_none {p : HostId} {channel target action w1 w0 d2 d1 d0 late notify group : Byte}
    (h : 8 ≤ channel.toNat ∨ action = 4 ∨ 6 ≤ action.toNat ∨ action ≠ 5 ∧ 12 ≤ target.toNat ∨
      action = 3 ∧ number2 w1 w0 = 0 ∨ number3 d2 d1 d0 = 0 ∨ 2 ≤ late.toNat ∨ action ≠ 5 ∧ 2 ≤ notify.toNat ∨
      16 ≤ group.toNat) :
    reflexOf p [channel, target, action, w1, w0, d2, d1, d0, late, notify, group] = none := by
  simp only [reflexOf, Option.bind_eq_bind, Option.bind_eq_none_iff]
  intro c hc deed hdeed policy hpolicy told htold tag htag
  have undecoded (hbad : reflexDeedOf action target (number2 w1 w0) = none) : False := by
    rw [hbad] at hdeed
    cases hdeed
  rcases h with h | h | h | h | h | h | h | h | h
  · rw [channelOf_eq_none h] at hc
    cases hc
  · exact (undecoded (reflexDeedOf_eq_none (.inl h))).elim
  · exact (undecoded (reflexDeedOf_eq_none (.inr (.inl h)))).elim
  · exact (undecoded (reflexDeedOf_eq_none (.inr (.inr (.inl h))))).elim
  · exact (undecoded (reflexDeedOf_eq_none (.inr (.inr (.inr h))))).elim
  · exact if_pos h
  · rw [latePolicyOf_eq_none h] at hpolicy
    cases hpolicy
  · have hmark : decide (deed = .mark) = false :=
      decide_eq_false fun hd => h.1 (reflexDeedOf_eq_mark (hdeed.trans (congrArg some hd)))
    rw [notifyOf_eq_none hmark h.2] at htold
    cases htold
  · rw [tagOf_eq_none h] at htag
    cases htag

/-! ## The refusals -/

section Blocks

variable (h : HostId) (s : State)

/-- The blocks of the one-byte requests on a line refuse a byte that names none. -/
theorem lineBlocks_badArg {line : Byte} (hl : 12 ≤ line.toNat) :
    releaseBlock h [line] s = ⟨s, .badArg, []⟩ ∧ outputHoldBlock h [line] s = ⟨s, .badArg, []⟩ ∧
      outputFollowBlock h [line] s = ⟨s, .badArg, []⟩ ∧ lineStatusBlock h [line] s = ⟨s, .badArg, []⟩ := by
  simp only [releaseBlock, outputHoldBlock, outputFollowBlock, lineStatusBlock, lineOf_eq_none hl]
  exact ⟨rfl, rfl, rfl, rfl⟩

/-- The blocks of the one-byte requests on a channel refuse a byte that names none. -/
theorem channelBlocks_badArg {channel : Byte} (hc : 8 ≤ channel.toNat) :
    subscribeBlock h [channel] s = ⟨s, .badArg, []⟩ ∧ unsubscribeBlock h [channel] s = ⟨s, .badArg, []⟩ ∧
      senseRearmBlock h [channel] s = ⟨s, .badArg, []⟩ ∧ senseStatusBlock h [channel] s = ⟨s, .badArg, []⟩ ∧
        reflexClearBlock h [channel] s = ⟨s, .badArg, []⟩ := by
  simp only [subscribeBlock, unsubscribeBlock, senseRearmBlock, senseStatusBlock, reflexClearBlock, channelOf_eq_none hc]
  exact ⟨rfl, rfl, rfl, rfl, rfl⟩

theorem tbStartBlock_badArg {mode source r1 r0 : Byte} (hbad : 2 ≤ mode.toNat ∨ 2 ≤ source.toNat) :
    tbStartBlock h [mode, source, r1, r0] s = ⟨s, .badArg, []⟩ := by
  rcases hbad with hbad | hbad
  · simp only [tbStartBlock, boolOf_eq_none hbad]
    rfl
  · simp only [tbStartBlock, boolOf_eq_none hbad]
    cases boolOf mode <;> rfl

theorem lineSetupBlock_badArg {line idle ret safe : Byte}
    (hbad : 12 ≤ line.toNat ∨ 2 ≤ idle.toNat ∨ 2 ≤ ret.toNat ∨ 3 ≤ safe.toNat) :
    lineSetupBlock h [line, idle, ret, safe] s = ⟨s, .badArg, []⟩ := by
  rcases hbad with hbad | hbad
  · simp only [lineSetupBlock, lineOf_eq_none hbad]
    rfl
  · simp only [lineSetupBlock, settingsOf_eq_none hbad]
    cases lineOf line <;> rfl

theorem outputForceBlock_badArg {line level : Byte} (hbad : 12 ≤ line.toNat ∨ 2 ≤ level.toNat) :
    outputForceBlock h [line, level] s = ⟨s, .badArg, []⟩ := by
  rcases hbad with hbad | hbad
  · simp only [outputForceBlock, lineOf_eq_none hbad]
    rfl
  · simp only [outputForceBlock, boolOf_eq_none hbad]
    cases lineOf line <;> rfl

theorem senseSetupBlock_badArg {channel edge filter prescale gate : Byte}
    (hbad : 8 ≤ channel.toNat ∨ 3 ≤ edge.toNat ∨ 3 ≤ filter.toNat ∨ 2 ≤ gate.toNat) :
    senseSetupBlock h [channel, edge, filter, prescale, gate] s = ⟨s, .badArg, []⟩ := by
  rcases hbad with hbad | hbad | hbad | hbad
  · simp only [senseSetupBlock, channelOf_eq_none hbad]
    rfl
  · simp only [senseSetupBlock, edgeSelectionOf_eq_none hbad]
    cases channelOf channel <;> rfl
  · simp only [senseSetupBlock, filterOf_eq_none hbad]
    cases channelOf channel <;> cases edgeSelectionOf edge <;> rfl
  · simp only [senseSetupBlock, boolOf_eq_none hbad]
    cases channelOf channel <;> cases edgeSelectionOf edge <;> cases filterOf filter <;> rfl

end Blocks

/-- Settles O13: each block with a field that names no value. -/
theorem badFieldsAreRefused : Obligations.BadFieldsAreRefused := by
  intro s p tag c hbad
  rcases hbad with ⟨limit, watch, h, rfl, hwatch⟩ | ⟨ho, hbad⟩
  · refine IsRequest.opening.answered h rfl (.inl rfl) ?_
    simp only [openBlock, boolOf_eq_none hwatch]
    rfl
  rcases hbad with ⟨_, _, _, _, h, rfl, hbad⟩ | ⟨option, h, rfl, hbad⟩ | ⟨mode, _, _, _, h, rfl, hbad⟩ |
    ⟨_, _, _, _, _, _, _, h, rfl, hbad⟩ | ⟨line, hline, hc⟩ | ⟨_, _, _, _, h, rfl, hbad⟩ | ⟨_, _, h, rfl, hbad⟩ |
    ⟨_, _, _, _, _, h, rfl, hbad⟩ | ⟨channel, hchannel, hc⟩ | ⟨_, _, _, _, _, _, _, _, _, _, _, h, rfl, hbad⟩
  · exact IsRequest.tbStart.answered h rfl (.inr ho) (tbStartBlock_badArg p _ hbad)
  · refine IsRequest.tbStop.answered h rfl (.inr ho) ?_
    simp only [tbStopBlock, boolOf_eq_none hbad]
    rfl
  · refine IsRequest.tbSetSync.answered h rfl (.inr ho) ?_
    simp only [tbSetSyncBlock, syncModeOf_eq_none hbad]
    rfl
  · refine IsRequest.claim.answered h rfl (.inr ho) ?_
    simp only [claimBlock, claimOf_eq_none hbad]
    rfl
  · obtain ⟨hrelease, hhold, hfollow, hstatus⟩ := lineBlocks_badArg p (arrived s p) hline
    rcases hc with ⟨h, rfl⟩ | ⟨h, rfl⟩ | ⟨h, rfl⟩ | ⟨h, rfl⟩
    · exact IsRequest.release.answered h rfl (.inr ho) hrelease
    · exact IsRequest.outputHold.answered h rfl (.inr ho) hhold
    · exact IsRequest.outputFollow.answered h rfl (.inr ho) hfollow
    · exact IsRequest.lineStatus.answered h rfl (.inr ho) hstatus
  · exact IsRequest.lineSetup.answered h rfl (.inr ho) (lineSetupBlock_badArg p _ hbad)
  · exact IsRequest.outputForce.answered h rfl (.inr ho) (outputForceBlock_badArg p _ hbad)
  · exact IsRequest.senseSetup.answered h rfl (.inr ho) (senseSetupBlock_badArg p _ hbad)
  · obtain ⟨hsubscribe, hunsubscribe, -, hstatus, hclear⟩ := channelBlocks_badArg p (arrived s p) hchannel
    rcases hc with ⟨h, rfl⟩ | ⟨h, rfl⟩ | ⟨h, rfl⟩ | ⟨h, rfl⟩
    · exact IsRequest.subscribe.answered h rfl (.inr ho) hsubscribe
    · exact IsRequest.unsubscribe.answered h rfl (.inr ho) hunsubscribe
    · exact IsRequest.senseStatus.answered h rfl (.inr ho) hstatus
    · exact IsRequest.reflexClear.answered h rfl (.inr ho) hclear
  · refine IsRequest.reflexSet.answered h rfl (.inr ho) ?_
    simp only [reflexSetBlock, reflexOf_eq_none hbad]
    rfl

end Sys2Proof.Machine

end

section
/-! The requests on one drive line, one channel or one reflex: claims, output requests, sense setup, rearm and reflexes. -/

set_option Elab.async false

namespace Sys2Proof.Machine

open Sys2Proof.Safety

/-! ## Sets of hosts -/

theorem noHosts_iff (q : HostSet) : noHosts q = true ↔ ∀ k, q.get k = false := by
  obtain ⟨a, b, c, d⟩ := q
  constructor
  · intro h k
    simp only [noHosts, Bool.not_eq_true', Bool.or_eq_false_iff] at h
    obtain ⟨⟨⟨ha, hb⟩, hc⟩, hd⟩ := h
    cases k <;> assumption
  · intro h
    have ha : a = false := h .a
    have hb : b = false := h .b
    have hc : c = false := h .c
    have hd : d = false := h .d
    simp [noHosts, ha, hb, hc, hd]

/-- A host is the only one of a set when it belongs to it and no other does. -/
theorem onlyHost_iff (q : HostSet) (h : HostId) : onlyHost q h = true ↔ q.get h = true ∧ ∀ k, k ≠ h → q.get k = false := by
  rw [onlyHost, Bool.and_eq_true, noHosts_iff]
  refine and_congr_right fun _ => ⟨fun hall k hne => ?_, fun hall k => ?_⟩
  · rw [← hall k, Quad.get_set_ne _ _ hne]
  · rw [Quad.get_set]
    split
    · rfl
    · exact hall k ‹_›

theorem onlyHost_eq_false {q : HostSet} {h k : HostId} (hne : k ≠ h) (hk : q.get k = true) : onlyHost q h = false :=
  Bool.eq_false_iff.mpr fun honly => by
    have := ((onlyHost_iff q h).mp honly).2 k hne
    rw [hk] at this
    cases this

/-! ## Output requests -/

section Control

variable {s : State} {h : HostId} {l : LineId}

theorem State.soleControl_notOwner (hout : (s.claim l).holders.get h = false) : s.soleControl h l = some .notOwner := by
  simp only [State.soleControl, hout, Bool.not_false, if_true]

theorem State.soleControl_busy (hin : (s.claim l).holders.get h = true) {k : HostId} (hne : k ≠ h)
    (hk : (s.claim l).holders.get k = true) : s.soleControl h l = some .busy := by
  simp only [State.soleControl, hin, onlyHost_eq_false hne hk, Bool.not_true, Bool.false_eq_true, if_false]

theorem State.soleControl_alone (hin : (s.claim l).holders.get h = true) (halone : ∀ k, k ≠ h → (s.claim l).holders.get k = false) :
    s.soleControl h l = none := by
  simp only [State.soleControl, hin, (onlyHost_iff _ h).mpr ⟨hin, halone⟩, Bool.not_true, Bool.false_eq_true, if_false, if_true]

end Control

/-- Settles O47: the two checks of sole control. -/
theorem outputRequestsNeedSoleControl : Obligations.OutputRequestsNeedSoleControl := by
  intro s p tag line l c status ho hl hc hcontrol
  have hline := lineOf_eq hl
  have hsole : (arrived s p).soleControl p l = some status := by
    rcases hcontrol with ⟨hout, rfl⟩ | ⟨hin, ⟨k, hne, hk⟩, rfl⟩
    · exact State.soleControl_notOwner (s := arrived s p) hout
    · exact State.soleControl_busy (s := arrived s p) hin hne hk
  rcases hc with ⟨idle, ret, safe, settings, rfl, h, hsettings⟩ | ⟨rfl, h⟩ | ⟨level, v, rfl, h, hv⟩ | ⟨rfl, h⟩
  · refine IsRequest.lineSetup.answered h rfl (.inr ho) ?_
    simp only [lineSetupBlock, hline, hsettings, hsole]
    rfl
  · refine IsRequest.outputHold.answered h rfl (.inr ho) ?_
    simp only [outputHoldBlock, hline, hsole]
    rfl
  · refine IsRequest.outputForce.answered h rfl (.inr ho) ?_
    simp only [outputForceBlock, hline, hv, hsole]
    rfl
  · refine IsRequest.outputFollow.answered h rfl (.inr ho) ?_
    simp only [outputFollowBlock, hline, hsole]
    rfl

/-- Settles O48: the four requests under sole control. -/
theorem outputRequestsActOnTheHeldLine : Obligations.OutputRequestsActOnTheHeldLine := by
  intro s p tag line l ho hl hin halone
  have hline := lineOf_eq hl
  have hsole : (arrived s p).soleControl p l = none := State.soleControl_alone (s := arrived s p) hin halone
  have hrec : (arrived s p).line l = s.line l := rfl
  refine ⟨fun idle ret safe settings h hsettings => ?_, fun h => ⟨fun hdriven => ?_, fun hheld => ?_⟩,
    fun level v h hv => ⟨fun hheld => ?_, fun hdriven => ?_⟩, fun h => ⟨fun hheld => ?_, fun hdriven => ?_⟩⟩
  · refine IsRequest.lineSetup.answered h rfl (.inr ho) ?_
    simp only [lineSetupBlock, hline, hsettings, hsole]
    rfl
  · refine IsRequest.outputHold.answered h rfl (.inr ho) ?_
    simp only [outputHoldBlock, hline, hsole, hrec, hdriven]
    rfl
  · refine IsRequest.outputHold.answered h rfl (.inr ho) ?_
    simp only [outputHoldBlock, hline, hsole, hrec, hheld]
    rfl
  · refine IsRequest.outputForce.answered h rfl (.inr ho) ?_
    simp only [outputForceBlock, hline, hv, hsole, hrec, hheld]
    rfl
  · refine IsRequest.outputForce.answered h rfl (.inr ho) ?_
    simp only [outputForceBlock, hline, hv, hsole, hrec, hdriven]
    rfl
  · refine IsRequest.outputFollow.answered h rfl (.inr ho) ?_
    simp only [outputFollowBlock, hline, hsole, hrec, hheld]
    rfl
  · refine IsRequest.outputFollow.answered h rfl (.inr ho) ?_
    simp only [outputFollowBlock, hline, hsole, hrec, hdriven]
    rfl

/-! ## Claims -/

theorem ClaimRec.awaitedBy_iff (c : ClaimRec) (h : HostId) : c.awaitedBy h = true ↔ ∃ w ∈ c.waiting, w.host = h := by
  simp [ClaimRec.awaitedBy]

theorem ClaimRec.awaitedBy_eq_false (c : ClaimRec) (h : HostId) : c.awaitedBy h = false ↔ ∀ w ∈ c.waiting, w.host ≠ h := by
  simp [ClaimRec.awaitedBy]

theorem claimOf_eq {line mode wait idle ret safe policy : Byte} {l : LineId} {ask : Ask} {waits : Bool} {settings : LineSettings}
    (hl : lineOf line = some l) (hask : askOf mode policy = some ask) (hwaits : boolOf wait = some waits)
    (hsettings : settingsOf idle ret safe = some settings) :
    claimOf [line, mode, wait, idle, ret, safe, policy] = some (l, ask, waits, settings) := by
  simp only [claimOf, Option.bind_eq_bind, hl, hask, hwaits, hsettings, Option.bind_some]

theorem hostCount_single (h : HostId) : hostCount ((Quad.const false).set h true) = 1 := by cases h <;> rfl

/-- The claim record of a FREE line granted to a host (R88). -/
def ClaimRec.grantedTo (h : HostId) (ask : Ask) : ClaimRec :=
  { state := match ask with | .exclusive => .exclusive | .shared _ => .shared
    holders := (Quad.const false).set h true, policy := ask.policy, waiting := [] }

theorem State.grantNow_eq (s : State) (h : HostId) (l : LineId) (ask : Ask) (settings : LineSettings) :
    s.grantNow h l ask settings = (s.setClaim l (.grantedTo h ask)).setLine l (.grantedIn s.tb.mode settings) := rfl

/-- The record of a granted line, item by item (R81). -/
theorem OutputRec.grantedIn_eq (mode : TbMode) (settings : LineSettings) :
    OutputRec.grantedIn mode settings =
      { level := settings.idle, pulse := none, settings
        output := if mode = .refLost ∧ settings.safe.isSome then .held else .driven
        heldLevel := if mode = .refLost then settings.safe.getD false else false } := by
  obtain ⟨idle, ret, safe⟩ := settings
  cases mode <;> cases safe <;> rfl

theorem State.claim_setLine (s : State) (l m : LineId) (r : OutputRec) : (s.setLine l r).claim m = s.claim m := rfl

section Claim

variable {s : State} {p : HostId} {l : LineId} (ask : Ask) (waits : Bool) (settings : LineSettings) {payload : List Byte}
  (hpayload : claimOf payload = some (l, ask, waits, settings)) (hout : (s.claim l).holders.get p = false)
  (hnew : (s.claim l).awaitedBy p = false)

include hpayload hout hnew

/-- A CLAIM by a host that neither holds nor waits finds the line FREE (R88). -/
theorem claimBlock_free (hfree : (s.claim l).state = .free) :
    claimBlock p payload s =
      (s.grantNow p l ask settings).accept (claimHeldBytes ask.mode ((s.grantNow p l ask settings).claim l)) := by
  simp only [claimBlock, hpayload, hout, hnew, hfree, Bool.false_eq_true, if_false]

/-- It joins a SHARED line that nobody waits for (R89). -/
theorem claimBlock_joins {asked : Policy} (hask : ask = .shared asked) (hshared : (s.claim l).state = .shared)
    (hnone : (s.claim l).waiting = []) :
    claimBlock p payload s =
      (s.setClaim l { s.claim l with holders := (s.claim l).holders.set p true }).accept
        (claimHeldBytes .shared { s.claim l with holders := (s.claim l).holders.set p true }) := by
  subst hask
  simp only [claimBlock, hpayload, hout, hnew, hshared, hnone, Bool.false_eq_true, if_false, State.claim_setClaim_same]

/-- Any other is queued or refused (R90). -/
theorem claimBlock_queues
    (hstate : (s.claim l).state = .exclusive ∨ (s.claim l).state = .shared ∧ (ask = .exclusive ∨ (s.claim l).waiting ≠ [])) :
    claimBlock p payload s = s.queueClaim p l ask waits settings := by
  simp only [claimBlock, hpayload, hout, hnew, Bool.false_eq_true, if_false]
  rcases hstate with hstate | ⟨hstate, rfl | hwaiting⟩
  · simp only [hstate]
  · simp only [hstate]
  · obtain ⟨w, rest, hwaiting⟩ := List.exists_cons_of_ne_nil hwaiting
    cases ask <;> simp only [hstate, hwaiting]

end Claim

/-- Settles O44: CLAIM by the state of the line and the request. -/
theorem claimGrantsJoinsQueuesOrRefuses : Obligations.ClaimGrantsJoinsQueuesOrRefuses := by
  intro s p tag line mode wait idle ret safe policy l ask waits settings h ho hl hask hwaits hsettings
  have hpayload := claimOf_eq (lineOf_eq hl) hask hwaits hsettings
  have hrec : (arrived s p).claim l = s.claim l := rfl
  refine ⟨fun hin => ?holds, fun hout hwaiting => ?waits,
    fun hout hwaiting => ⟨fun hfree => ?free, fun asked hshared hasked hnone => ?joins,
      fun hstate => ⟨fun hw => ?queued, fun hw => ?refused⟩⟩⟩
  case holds =>
    refine IsRequest.claim.answered h rfl (.inr ho) ?_
    simp only [claimBlock, hpayload, hrec, hin, if_true]
    rfl
  case waits =>
    refine IsRequest.claim.answered h rfl (.inr ho) ?_
    simp only [claimBlock, hpayload, hrec, hout, (ClaimRec.awaitedBy_iff _ p).mpr hwaiting, if_true, Bool.false_eq_true, if_false]
    rfl
  all_goals have hnew := (ClaimRec.awaitedBy_eq_false _ p).mpr hwaiting
  case free =>
    refine IsRequest.claim.answered h rfl (.inr ho)
      ((claimBlock_free (s := arrived s p) ask waits settings hpayload hout hnew hfree).trans ?_)
    rw [State.grantNow_eq, State.claim_setLine, State.claim_setClaim_same, OutputRec.grantedIn_eq]
    cases ask with
    | exclusive => simp only [ClaimRec.grantedTo, claimHeldBytes, hostCount_single, State.accept]; rfl
    | shared asked => simp only [ClaimRec.grantedTo, claimHeldBytes, hostCount_single, State.accept]; rfl
  case joins =>
    exact IsRequest.claim.answered h rfl (.inr ho)
      (claimBlock_joins (s := arrived s p) ask waits settings hpayload hout hnew hasked hshared hnone)
  case queued =>
    refine IsRequest.claim.answered h rfl (.inr ho)
      ((claimBlock_queues (s := arrived s p) ask waits settings hpayload hout hnew hstate).trans ?_)
    simp only [State.queueClaim, hw, if_true, hrec]
  case refused =>
    refine IsRequest.claim.answered h rfl (.inr ho)
      ((claimBlock_queues (s := arrived s p) ask waits settings hpayload hout hnew hstate).trans ?_)
    simp only [State.queueClaim, hw, Bool.false_eq_true, if_false]
    rfl

/-! ## Sense channels -/

/-- Settles O50: SENSE_SETUP by the other subscribers. -/
theorem senseSetupNeedsNoOtherSubscriber : Obligations.SenseSetupNeedsNoOtherSubscriber := by
  intro s p tag channel edge filter prescale gate c e f g h ho hc he hf hg
  have hrec : (arrived s p).channel c = s.channel c := rfl
  refine ⟨fun ⟨k, hne, hk⟩ => ?_, fun hothers after hafter => ?_⟩
  · have hsome : noHosts (s.channel c).subscribers = false := Bool.eq_false_iff.mpr fun hnone => by
      have := (noHosts_iff _).mp hnone k
      rw [hk] at this
      cases this
    refine IsRequest.senseSetup.answered h rfl (.inr ho) ?_
    simp only [senseSetupBlock, channelOf_eq hc, he, hf, hg, hrec, hsome, onlyHost_eq_false hne hk, Bool.not_false,
      Bool.and_self, if_true]
    rfl
  · have hfree : (!noHosts (s.channel c).subscribers && !onlyHost (s.channel c).subscribers p) = false := by
      cases hin : (s.channel c).subscribers.get p with
      | true => rw [(onlyHost_iff _ p).mpr ⟨hin, hothers⟩, Bool.not_true, Bool.and_false]
      | false =>
        have hnone := (noHosts_iff (s.channel c).subscribers).mpr fun k => by
          by_cases hk : k = p
          · exact hk ▸ hin
          · exact hothers k hk
        rw [hnone, Bool.not_true, Bool.false_and]
    have hstate : ((s.channel c).setUp e f prescale.toNat g).state = after := by
      subst hafter
      simp only [ChannelRec.setUp]
      cases (s.channel c).state <;> cases g <;> rfl
    refine IsRequest.senseSetup.answered h rfl (.inr ho) ?_
    simp only [senseSetupBlock, channelOf_eq hc, he, hf, hg, hrec, hfree, Bool.false_eq_true, if_false, State.accept, hstate]
    rw [← hstate]
    rfl

/-- A rearm of a channel with subscribers (R115). -/
theorem State.rearm_eq {s : State} {c : ChannelId} (h : (s.channel c).state ≠ .idle) :
    s.rearm c = s.setChannel c { s.channel c with state := .opened, counter := 0 } := by
  unfold State.rearm
  cases hstate : (s.channel c).state with
  | idle => exact absurd hstate h
  | opened => rfl
  | gated => rfl

/-- Settles O52: SENSE_REARM by subscription. -/
theorem senseRearmReopensTheChannel : Obligations.SenseRearmReopensTheChannel := by
  intro s p tag channel h
  refine ⟨fun hclosed => IsRequest.senseRearm.sessionClosed h rfl rfl hclosed, fun ho hbad => ?_,
    fun c ho hc => ⟨fun hout => ?_, fun hin hstate => ?_⟩⟩
  · exact IsRequest.senseRearm.answered h rfl (.inr ho) (channelBlocks_badArg p _ hbad).2.2.1
  · have hrec : (arrived s p).channel c = s.channel c := rfl
    refine IsRequest.senseRearm.answered h rfl (.inr ho) ?_
    simp only [senseRearmBlock, channelOf_eq hc, hrec, hout, Bool.not_false, if_true]
    rfl
  · have hrec : (arrived s p).channel c = s.channel c := rfl
    refine IsRequest.senseRearm.answered h rfl (.inr ho) ?_
    simp only [senseRearmBlock, channelOf_eq hc, hrec, hin, Bool.not_true, Bool.false_eq_true, if_false,
      State.rearm_eq (s := arrived s p) hstate]
    rfl

/-! ## Reflexes -/

theorem reflexOf_eq {p : HostId} {channel target action w1 w0 d2 d1 d0 late notify group : Byte} {c : ChannelId}
    {deed : ReflexDeed} {policy : LatePolicy} {tells : Bool} {g : Fin 16} (hc : channelOf channel = some c)
    (hdeed : reflexDeedOf action target (number2 w1 w0) = some deed) (hlate : latePolicyOf late = some policy)
    (hnotify : notifyOf (decide (deed = .mark)) notify = some tells) (hgroup : tagOf group = some g)
    (hdelay : number3 d2 d1 d0 ≠ 0) :
    reflexOf p [channel, target, action, w1, w0, d2, d1, d0, late, notify, group] =
      some (c, { owner := p, deed, delay := number3 d2 d1 d0, late := policy, notify := tells, tag := g }) := by
  simp only [reflexOf, Option.bind_eq_bind, hc, hdeed, hlate, hnotify, hgroup, Option.bind_some, if_neg hdelay]

/-- Checks 2 to 5 of REFLEX_SET, as the status of the first that fails (R123). -/
theorem State.reflexFails_eq (s : State) (c : ChannelId) (r : Reflex) :
    s.reflexFails c r =
      if (s.channel c).subscribers.get r.owner = false then some (.notSubscribed, [])
      else if ∃ l, r.deed.deed.line = some l ∧ (s.claim l).holders.get r.owner = false then some (.notOwner, [])
      else if s.toggleShared r.deed.deed then some (.notAllowed, [])
      else match s.reflex c with
        | none => none
        | some old => if old.owner = r.owner then none else some (.busy, [HostId.code old.owner]) := by
  simp only [State.reflexFails]
  cases r.deed.deed.line <;> cases s.reflex c <;> simp

/-- Settles O54: REFLEX_SET by its checks in order, REFLEX_CLEAR by the reflex that stands. -/
theorem reflexIsSetReplacedAndCleared : Obligations.ReflexIsSetReplacedAndCleared := by
  intro s p tag ho
  refine ⟨fun channel target action w1 w0 d2 d1 d0 late notify group c deed policy tells g h hc hdeed hlate hnotify hgroup
    hdelay => ?set, fun channel c h hc => ⟨fun hnone => ?_, fun r hr => ⟨fun hother => ?_, fun hown => ?_⟩⟩⟩
  case set =>
    have hread := reflexOf_eq (p := p) (channelOf_eq hc) hdeed hlate hnotify hgroup hdelay
    have refused {st : Status} {items : List Byte}
        (hfails : s.reflexFails c ⟨p, deed, number3 d2 d1 d0, policy, tells, g⟩ = some (st, items)) :
        exec (.reflexSet p) s = .next ((arrived s p).placeReply p tag st items) := by
      have hfails : (arrived s p).reflexFails c ⟨p, deed, number3 d2 d1 d0, policy, tells, g⟩ = some (st, items) := hfails
      refine IsRequest.reflexSet.answered h rfl (.inr ho) ?_
      simp only [reflexSetBlock, hread, hfails]
      rfl
    have subscribed (hin : (s.channel c).subscribers.get p = true) : ¬ (s.channel c).subscribers.get p = false :=
      ne_false_of_eq_true hin
    refine ⟨fun hout => refused ?_, fun hin => ⟨fun l hl hout => refused ?_, fun l hl hholds hshared => refused ?_,
      fun hmay => ⟨fun hown => ?_, fun r hr hother => refused ?_⟩⟩⟩
    · rw [State.reflexFails_eq, if_pos hout]
    · rw [State.reflexFails_eq, if_neg (subscribed hin), if_pos ⟨l, hl, hout⟩]
    · subst hl
      have hheld : ¬ ∃ m, (ReflexDeed.onLine .toggle l).deed.line = some m ∧ (s.claim m).holders.get p = false := by
        rintro ⟨m, hm, hout⟩
        cases hm
        rw [hholds] at hout
        cases hout
      have htoggle : s.toggleShared (ReflexDeed.onLine .toggle l).deed = true := decide_eq_true hshared
      rw [State.reflexFails_eq, if_neg (subscribed hin), if_neg hheld, if_pos htoggle]
    all_goals
      have hheld : ¬ ∃ l, deed.deed.line = some l ∧ (s.claim l).holders.get p = false := by
        rintro ⟨l, hl, hout⟩
        rw [(hmay l hl).1] at hout
        cases hout
      have htoggle : ¬ s.toggleShared deed.deed = true := by
        intro htoggle
        unfold State.toggleShared at htoggle
        split at htoggle
        · next l hdeed => exact (hmay l (by rw [hdeed]; rfl)).2 (of_decide_eq_true htoggle) (by rw [hdeed]; rfl)
        · cases htoggle
    · have hfails : (arrived s p).reflexFails c ⟨p, deed, number3 d2 d1 d0, policy, tells, g⟩ = none := by
        change s.reflexFails c _ = none
        rw [State.reflexFails_eq, if_neg (subscribed hin), if_neg hheld, if_neg htoggle]
        cases hreflex : s.reflex c with
        | none => rfl
        | some old => exact if_pos (hown old hreflex)
      refine IsRequest.reflexSet.answered h rfl (.inr ho) ?_
      simp only [reflexSetBlock, hread, hfails]
      rfl
    · rw [State.reflexFails_eq, if_neg (subscribed hin), if_neg hheld, if_neg htoggle, hr]
      exact if_neg hother
  all_goals refine IsRequest.reflexClear.answered h rfl (.inr ho) ?_
  · have hnone : (arrived s p).reflex c = none := hnone
    simp only [reflexClearBlock, channelOf_eq hc, hnone]
    rfl
  · have hr : (arrived s p).reflex c = some r := hr
    simp only [reflexClearBlock, channelOf_eq hc, hr, if_neg hother]
    rfl
  · have hr : (arrived s p).reflex c = some r := hr
    simp only [reflexClearBlock, channelOf_eq hc, hr, if_pos hown]
    rfl

/-- Settles O55: the ticks through this frame, through whole later frames, and into the due frame. -/
theorem reflexDueTimeCountsTheDelay : Obligations.ReflexDueTimeCountsTheDelay := by
  intro s c r hrange
  obtain ⟨hphase, ⟨hmin, -⟩, hstaged, -⟩ := hrange
  have hlater : 0 < s.tb.staged.getD s.tb.length := by
    cases hst : s.tb.staged with
    | none => exact Nat.lt_of_lt_of_le (by decide) hmin
    | some n => exact Nat.lt_of_lt_of_le (by decide) (hstaged n hst).1
  refine ⟨fun hahead => ?_, fun k hahead => ?_, rfl, rfl, rfl, rfl⟩
  · simp only [State.reflexOffer, Timebase.advanced] at hahead ⊢
    split at hahead
    · next hreach =>
      rw [if_pos hreach]
      exact ⟨rfl, hreach⟩
    · exact absurd ((Nat.add_comm _ 1).trans hahead) (Nat.succ_ne_zero _)
  · simp only [State.reflexOffer, Timebase.advanced] at hahead ⊢
    split at hahead
    · cases hahead
    · next hreach =>
      rw [if_neg hreach]
      dsimp only at hahead ⊢
      have hdiv := Nat.div_add_mod (s.tb.now.phase + r.delay - s.tb.length) (s.tb.staged.getD s.tb.length)
      have hk : (s.tb.now.phase + r.delay - s.tb.length) / s.tb.staged.getD s.tb.length = k :=
        Nat.add_left_cancel (hahead.trans (Nat.add_comm k 1))
      rw [hk, Nat.mul_comm] at hdiv
      exact ⟨by omega, Nat.mod_lt _ hlater⟩

end Sys2Proof.Machine

end

section
/-! The requests on the schedule: what an offer's checks say, SCHEDULE, CANCEL, and the status requests. -/

set_option Elab.async false

namespace Sys2Proof.Machine

open Sys2Proof.Safety

/-! ## The checks of an offer -/

section Checks

variable (s : State) (o : Offer)

theorem State.toggleShared_iff (d : Deed) :
    s.toggleShared d = true ↔ ∃ l, d = .onLine .toggle l ∧ (s.claim l).state = .shared := by
  unfold State.toggleShared
  split
  · next l =>
    refine decide_eq_true_iff.trans ⟨fun h => ⟨l, rfl, h⟩, ?_⟩
    rintro ⟨m, hm, h⟩
    cases hm
    exact h
  · next hno =>
    refine ⟨fun h => absurd h Bool.false_ne_true, ?_⟩
    rintro ⟨l, hl, -⟩
    exact absurd hl (hno l)

theorem State.ownershipFails_none (hline : ∀ l, o.deed.line = some l → (s.claim l).holders.get o.owner = true)
    (hchannel : ∀ c, o.deed.rearms = some c → (s.channel c).subscribers.get o.owner = true) : s.ownershipFails o = none := by
  unfold State.ownershipFails
  cases hd : o.deed with
  | onLine k l => exact if_pos (hline l (by rw [hd]; rfl))
  | rearm c => exact if_pos (hchannel c (by rw [hd]; rfl))
  | mark => rfl

theorem State.ownershipFails_notOwner {l : LineId} (hline : o.deed.line = some l) (hout : (s.claim l).holders.get o.owner = false) :
    s.ownershipFails o = some .notOwner := by
  unfold State.ownershipFails
  cases hd : o.deed with
  | onLine k m =>
    rw [hd] at hline
    cases hline
    exact if_neg (ne_true_of_eq_false hout)
  | rearm c => rw [hd] at hline; cases hline
  | mark => rw [hd] at hline; cases hline

theorem State.ownershipFails_notSubscribed {c : ChannelId} (hchannel : o.deed.rearms = some c)
    (hout : (s.channel c).subscribers.get o.owner = false) : s.ownershipFails o = some .notSubscribed := by
  unfold State.ownershipFails
  cases hd : o.deed with
  | onLine k m => rw [hd] at hchannel; cases hchannel
  | rearm d =>
    rw [hd] at hchannel
    cases hchannel
    exact if_neg (ne_true_of_eq_false hout)
  | mark => rw [hd] at hchannel; cases hchannel

theorem ClaimRec.refusing_iff (c : ClaimRec) : c.refusing = true ↔ c.state = .shared ∧ c.policy = .refuse := by
  simp [ClaimRec.refusing]

theorem State.collides_iff (l : LineId) (due : Time) :
    s.collides l due = true ↔ (s.claim l).refusing = true ∧ ∃ e ∈ s.entries, e.deed.line = some l ∧ e.due = due := by
  simp [State.collides]

theorem State.offerCollides_iff :
    s.offerCollides o = true ↔ ∃ l, o.deed.line = some l ∧ (s.claim l).refusing = true ∧
      ∃ e ∈ s.entries, e.deed.line = some l ∧ e.due = s.dueOf o := by
  unfold State.offerCollides
  cases hl : o.deed.line with
  | none => simp
  | some l =>
    simp only [State.collides_iff, Option.some.injEq]
    exact ⟨fun h => ⟨l, rfl, h⟩, fun ⟨m, hm, h⟩ => hm ▸ h⟩

/-- Checks 3 to 10, once ownership is given. -/
theorem State.offerFails_owned (howned : s.ownershipFails o = none) :
    s.offerFails o =
      if s.toggleShared o.deed then some .notAllowed
      else if s.tb.mode = .refLost then some .state
      else if s.offerLate o then some .late
      else if Config.horizon < o.ahead then some .tooFar
      else if s.tb.governing o.ahead ≤ o.phase then some .phaseRange
      else if s.offerCollides o then some .collide
      else if Config.capacity ≤ s.total then some .full
      else if Config.quota ≤ s.ownCount o.owner then some .quota
      else none := by
  simp only [State.offerFails, howned]

theorem State.offerLate_iff :
    s.offerLate o = true ↔
      o.ahead = 0 ∧ o.phase ≤ s.tb.now.phase ∨ o.origin = .host ∧ 32768 ≤ o.ahead := by
  simp [State.offerLate]

theorem Timebase.governing_eq (t : Timebase) (ahead : Nat) :
    t.governing ahead = if ahead = 0 then t.length else t.staged.getD t.length := rfl

end Checks

/-! ## The fields of SCHEDULE -/

theorem deedOf_mark_iff {action target : Byte} {width : Nat} {deed : Deed} (h : deedOf action target width = some deed) :
    deed = .mark ↔ action = 5 := by
  unfold deedOf at h
  split at h
  · next hmark =>
    cases h
    exact ⟨fun _ => hmark, fun _ => rfl⟩
  · next hmark =>
    refine ⟨?_, fun h5 => absurd h5 hmark⟩
    rintro rfl
    split at h
    · cases hc : channelOf target <;> rw [hc] at h <;> cases h
    · simp only [Option.bind_eq_bind, Option.bind_eq_some_iff] at h
      obtain ⟨_, _, _, _, h⟩ := h
      cases h

/-- The lead of a frame number leads back to it (R10). -/
theorem add_leadOf (cur f : BitVec 16) : cur + BitVec.ofNat 16 (leadOf cur f) = f := by
  unfold leadOf
  bv_omega

/-- The offer of a host that a SCHEDULE decodes to (R6, R10). -/
def State.hostOffer (s : State) (p : HostId) (deed : Deed) (due : Time) (recurrence : Option Recurrence) (tag : Fin 16)
    (notify : Bool) (late : LatePolicy) : Offer :=
  { owner := p, deed, ahead := leadOf s.tb.now.frame due.frame, phase := due.phase, recurrence, tag, notify, late, origin := .host }

theorem State.dueOf_hostOffer (s : State) (p : HostId) (deed : Deed) (due : Time) (recurrence : Option Recurrence) (tag : Fin 16)
    (notify : Bool) (late : LatePolicy) : s.dueOf (s.hostOffer p deed due recurrence tag notify late) = due :=
  Time.eq_of_parts (add_leadOf _ _) rfl

section Fields

variable {s : State} {p : HostId} {action target f1 f0 p2 p1 p0 w1 w0 present period r1 r0 group late notify : Byte}

theorem State.offerOf_eq {deed : Deed} {recurrence : Option Recurrence} {g : Fin 16} {policy : LatePolicy} {tells : Bool}
    {due : Time} (hdeed : deedOf action target (number2 w1 w0) = some deed)
    (hrec : recurrenceOf present period (number2 r1 r0) = some recurrence) (hgroup : tagOf group = some g)
    (hlate : latePolicyOf late = some policy) (hnotify : notifyOf (decide (deed = .mark)) notify = some tells)
    (hdue : due = ⟨BitVec.ofNat 16 (number2 f1 f0), number3 p2 p1 p0⟩) :
    s.offerOf p [action, target, f1, f0, p2, p1, p0, w1, w0, present, period, r1, r0, group, late, notify] =
      some (s.hostOffer p deed due recurrence g tells policy) := by
  subst hdue
  simp only [State.offerOf, Option.bind_eq_bind, hdeed, hrec, hgroup, hlate, hnotify, Option.bind_some]
  rfl

theorem State.offerOf_eq_none
    (hbad : deedOf action target (number2 w1 w0) = none ∨ recurrenceOf present period (number2 r1 r0) = none ∨
      16 ≤ group.toNat ∨ 2 ≤ late.toNat ∨ action ≠ 5 ∧ 2 ≤ notify.toNat) :
    s.offerOf p [action, target, f1, f0, p2, p1, p0, w1, w0, present, period, r1, r0, group, late, notify] = none := by
  simp only [State.offerOf, Option.bind_eq_bind, Option.bind_eq_none_iff]
  intro deed hdeed recurrence hrec g hg policy hpolicy told htold
  exfalso
  rcases hbad with h | h | h | h | ⟨hmark, h⟩
  · rw [h] at hdeed
    cases hdeed
  · rw [h] at hrec
    cases hrec
  · rw [tagOf_eq_none h] at hg
    cases hg
  · rw [latePolicyOf_eq_none h] at hpolicy
    cases hpolicy
  · rw [notifyOf_eq_none (decide_eq_false fun hd => hmark ((deedOf_mark_iff hdeed).mp hd)) h] at htold
    cases htold

end Fields

theorem boolOf_of_lt {b : Byte} (h : b.toNat < 2) : ∃ v, boolOf b = some v := by
  obtain rfl | rfl : b = 0 ∨ b = 1 := by bv_omega
  · exact ⟨_, rfl⟩
  · exact ⟨_, rfl⟩

theorem latePolicyOf_of_lt {b : Byte} (h : b.toNat < 2) : ∃ v, latePolicyOf b = some v := by
  obtain rfl | rfl : b = 0 ∨ b = 1 := by bv_omega
  · exact ⟨_, rfl⟩
  · exact ⟨_, rfl⟩

theorem tagOf_of_lt {b : Byte} (h : b.toNat < 16) : ∃ v, tagOf b = some v := ⟨_, dif_pos h⟩

/-! ## SCHEDULE -/

/-- An offer that passes its checks joins the list in the lowest free slot (R14). -/
theorem State.insert_passes {s : State} {o : Offer} (h : o.Passes s) :
    ∃ i, (∀ e ∈ s.entries, e.handle.slot ≠ i) ∧ (∀ j, j < i → ∃ e ∈ s.entries, e.handle.slot = j) ∧
      s.insert o = .joined (s.setEntries (placeEntry s.tb.now.frame (s.entryOf o i) s.entries)) ⟨i, s.uses[i]⟩ := by
  obtain ⟨i, hi, hfree, hlow⟩ := s.lowestFree_spec h.total
  refine ⟨i, hfree, hlow, ?_⟩
  rw [State.insert, State.offerFails_none.mpr h]
  simp only [hi]
  rfl

theorem State.insert_refused {s : State} {o : Offer} {st : Status} (h : s.offerFails o = some st) :
    s.insert o = .refused st := by
  rw [State.insert, h]

/-- Settles O38: the offer passes every check. -/
theorem scheduleJoinsALaterDueTime : Obligations.ScheduleJoinsALaterDueTime := by
  intro s p tag action target f1 f0 p2 p1 p0 w1 w0 present period r1 r0 group late notify deed recurrence g policy tells due h ho
    hdeed hrec hgroup hlate hnotify hdue hline hchannel hmode hlater hhorizon hfits htotal hquota
  have hoffer : (arrived s p).offerOf p _ = some (s.hostOffer p deed due recurrence g tells policy) :=
    State.offerOf_eq (s := arrived s p) hdeed hrec hgroup hlate hnotify hdue
  have hpass : (s.hostOffer p deed due recurrence g tells policy).Passes (arrived s p) :=
    { owned := State.ownershipFails_none _ _ (fun l hl => (hline l hl).1) hchannel
      toggle := Bool.eq_false_iff.mpr fun htoggle => by
        obtain ⟨l, rfl, hshared⟩ := (State.toggleShared_iff _ _).mp htoggle
        exact ((hline l rfl).2 hshared).1 rfl
      mode := hmode
      later := Bool.eq_false_iff.mpr fun hlate => by
        rcases (State.offerLate_iff _ _).mp hlate with ⟨hzero, hpast⟩ | ⟨-, hbehind⟩
        · exact (hlater hzero).not_ge hpast
        · exact absurd (hbehind.trans hhorizon) (by decide)
      horizon := hhorizon
      fits := hfits
      free := Bool.eq_false_iff.mpr fun hcollides => by
        obtain ⟨l, hl, hrefusing, e, he, heline, hedue⟩ := (State.offerCollides_iff _ _).mp hcollides
        obtain ⟨hshared, hrefuse⟩ := (ClaimRec.refusing_iff _).mp hrefusing
        exact ((hline l hl).2 hshared).2 hrefuse e he heline
          (hedue.trans (State.dueOf_hostOffer (arrived s p) p deed due recurrence g tells policy))
      total := htotal
      quota := hquota }
  obtain ⟨i, hfree, hlow, hinsert⟩ := State.insert_passes hpass
  refine ⟨i, hfree, hlow, IsRequest.schedule.answered h rfl (.inr ho) ?_⟩
  have hdueOf : (arrived s p).dueOf (s.hostOffer p deed due recurrence g tells policy) = due :=
    State.dueOf_hostOffer (arrived s p) p deed due recurrence g tells policy
  simp only [scheduleBlock, hoffer, hinsert]
  rw [State.entryOf, hdueOf]
  rfl

/-- Settles O39: the checks in their order, each behind those that pass. -/
theorem scheduleIsRefusedByItsFirstFailingCheck : Obligations.ScheduleIsRefusedByItsFirstFailingCheck := by
  intro s p tag action target f1 f0 p2 p1 p0 w1 w0 present period r1 r0 group late notify h ho
  refine ⟨fun hbad => IsRequest.schedule.answered h rfl (.inr ho) ?_, fun deed recurrence lead due hdeed hrec hgroup hlate hnotify
    hdue hlead => ?_⟩
  · simp only [scheduleBlock, State.offerOf_eq_none hbad]
    rfl
  obtain ⟨g, hgroup⟩ := tagOf_of_lt hgroup
  obtain ⟨policy, hlate⟩ := latePolicyOf_of_lt hlate
  obtain ⟨tells, hnotify⟩ : ∃ v, notifyOf (decide (deed = .mark)) notify = some v := by
    rcases hnotify with hmark | hlt
    · rw [decide_eq_true ((deedOf_mark_iff hdeed).mpr hmark)]
      exact ⟨true, rfl⟩
    · obtain ⟨v, hv⟩ := boolOf_of_lt hlt
      cases decide (deed = .mark) with
      | true => exact ⟨true, rfl⟩
      | false => exact ⟨v, hv⟩
  have hoffer : (arrived s p).offerOf p _ = some (s.hostOffer p deed due recurrence g tells policy) :=
    State.offerOf_eq (s := arrived s p) hdeed hrec hgroup hlate hnotify hdue
  have hdueOf : s.dueOf (s.hostOffer p deed due recurrence g tells policy) = due := State.dueOf_hostOffer ..
  obtain ⟨o, ho'⟩ : ∃ o, o = s.hostOffer p deed due recurrence g tells policy := ⟨_, rfl⟩
  rw [← ho'] at hoffer hdueOf
  have howner : o.owner = p := by rw [ho']; rfl
  have hodeed : o.deed = deed := by rw [ho']; rfl
  have hahead : o.ahead = lead := by rw [ho', hlead]; rfl
  have hophase : o.phase = due.phase := by rw [ho']; rfl
  have horigin : o.origin = .host := by rw [ho']; rfl
  have refused {st : Status} (hfails : s.offerFails o = some st) : Refuses (.schedule p) s p tag st := by
    have hfails : (arrived s p).offerFails o = some st := hfails
    refine IsRequest.schedule.answered h rfl (.inr ho) ?_
    simp only [scheduleBlock, hoffer, State.insert_refused hfails]
    rfl
  refine ⟨fun l hl hout => refused ?_, fun c hc hout => refused ?_, fun hline hchannel => ?_⟩
  · rw [State.offerFails, State.ownershipFails_notOwner s o (hodeed ▸ hl) (howner ▸ hout)]
  · rw [State.offerFails, State.ownershipFails_notSubscribed s o (hodeed ▸ hc) (howner ▸ hout)]
  have howned : s.ownershipFails o = none :=
    State.ownershipFails_none s o (by rw [howner, hodeed]; exact hline) (by rw [howner, hodeed]; exact hchannel)
  refine ⟨fun l hl hshared => refused ?_, fun hexclusive => ?_⟩
  · rw [State.offerFails_owned s o howned, if_pos ((State.toggleShared_iff s _).mpr ⟨l, hodeed.trans hl, hshared⟩)]
  have htoggle : ¬ s.toggleShared o.deed = true := fun htoggle =>
    let ⟨l, hl, hshared⟩ := (State.toggleShared_iff s _).mp htoggle
    hexclusive l (hodeed ▸ hl) hshared
  refine ⟨fun hlost => refused ?_, fun hmode => ?_⟩
  · rw [State.offerFails_owned s o howned, if_neg htoggle, if_pos hlost]
  have hlateIff : s.offerLate o = true ↔ lead = 0 ∧ due.phase ≤ s.tb.now.phase ∨ 32768 ≤ lead := by
    rw [State.offerLate_iff, hahead, hophase]
    simp [horigin]
  have hgoverning : s.tb.governing o.ahead = if lead = 0 then s.tb.length else s.tb.staged.getD s.tb.length := by
    rw [hahead, Timebase.governing_eq]
  refine ⟨fun hpast => refused ?_, fun hfar hahead' => refused ?_, fun hzero hlater hlong => refused ?_,
    fun hone hnear hlong => refused ?_, fun hlater hnear hfits => ?_⟩
  · rw [State.offerFails_owned s o howned, if_neg htoggle, if_neg hmode, if_pos (hlateIff.mpr hpast)]
  · rw [State.offerFails_owned s o howned, if_neg htoggle, if_neg hmode, if_neg (by rw [hlateIff]; omega),
      if_pos (by rw [hahead]; exact hfar)]
  · rw [State.offerFails_owned s o howned, if_neg htoggle, if_neg hmode, if_neg (by rw [hlateIff]; omega),
      if_neg (by rw [hahead, hzero]; decide), if_pos (by rw [hgoverning, hophase, if_pos hzero]; exact hlong)]
  · rw [State.offerFails_owned s o howned, if_neg htoggle, if_neg hmode, if_neg (by rw [hlateIff]; omega),
      if_neg (by rw [hahead]; simp only [Config.horizon]; omega),
      if_pos (by rw [hgoverning, hophase, if_neg (by omega)]; exact hlong)]
  have hbefore : s.offerFails o =
      if s.offerCollides o then some .collide
      else if Config.capacity ≤ s.total then some .full
      else if Config.quota ≤ s.ownCount o.owner then some .quota
      else none := by
    rw [State.offerFails_owned s o howned, if_neg htoggle, if_neg hmode, if_neg (by rw [hlateIff]; omega),
      if_neg (by rw [hahead]; simp only [Config.horizon]; omega), if_neg (by rw [hgoverning, hophase]; omega)]
  refine ⟨fun l hl hshared hrefuse hex => refused ?_, fun hfree => ?_⟩
  · rw [hbefore, if_pos]
    rw [State.offerCollides_iff, hdueOf]
    exact ⟨l, hodeed ▸ hl, (ClaimRec.refusing_iff _).mpr ⟨hshared, hrefuse⟩, hex⟩
  have hnone : ¬ s.offerCollides o = true := by
    rw [State.offerCollides_iff, hdueOf, hodeed]
    rintro ⟨l, hl, hrefusing, e, he, heline, hedue⟩
    obtain ⟨hshared, hrefuse⟩ := (ClaimRec.refusing_iff _).mp hrefusing
    exact hfree l hl hshared hrefuse e he heline hedue
  refine ⟨fun hfull => refused ?_, fun hroom hquota => refused ?_⟩
  · rw [hbefore, if_neg hnone, if_pos (show Config.capacity ≤ s.total from hfull)]
  · rw [hbefore, if_neg hnone, if_neg (show ¬ Config.capacity ≤ s.total from hroom.not_ge),
      if_pos (show Config.quota ≤ s.ownCount o.owner by rw [howner]; exact hquota)]

/-! ## CANCEL -/

theorem State.named_none {s : State} {handle : Handle} (h : ∀ e ∈ s.entries, e.handle ≠ handle) : s.named handle = none :=
  List.find?_eq_none.mpr fun e he => by simpa using h e he

/-- One entry to a slot: the entry a handle names is the one that bears it (R2). -/
theorem State.named_eq {s : State} {e : Entry} (hn : (s.entries.map fun e => e.handle.slot).Nodup) (he : e ∈ s.entries) :
    s.named e.handle = some e := by
  unfold State.named
  cases hf : s.entries.find? fun x => decide (x.handle = e.handle) with
  | none => exact absurd (decide_eq_true rfl) (List.find?_eq_none.mp hf e he)
  | some x =>
    have hx := List.mem_of_find?_eq_some hf
    have hhandle : x.handle = e.handle := by simpa using List.find?_some hf
    exact congrArg some (List.inj_on_of_nodup_map hn hx he (congrArg Handle.slot hhandle))

/-! ### What a placed reply shows -/

/-- A reply placed in a state that has the arrival's sessions, ports and queue changes nothing elsewhere. -/
theorem placeReply_elsewhere {s u : State} {p : HostId} (tag : Byte) (st : Status) (items : List Byte)
    (hsessions : u.sessions = (arrived s p).sessions) (hports : u.ports = (arrived s p).ports) (hpending : u.pending = s.pending) :
    Elsewhere s (u.placeReply p tag st items) p := by
  refine ⟨hsessions, fun k hne => ?_, ?_, hpending⟩
  · rw [State.port, State.placeReply_port_ne _ _ _ _ hne, hports, s.arrived_port_ne hne]
  · rw [State.port, State.placeReply_port_same, hports, s.arrived_port_same]
    rfl

theorem placeReply_answers (u : State) (p : HostId) (tag : Byte) (st : Status) (items : List Byte) :
    Answers (u.placeReply p tag st items) p tag st items := by
  refine ⟨?_, ?_⟩
  · rw [State.port, State.placeReply_port_same]
  · rw [State.port, State.placeReply_port_same]
    exact ⟨_, rfl, rfl, rfl, rfl, rfl, rfl⟩

/-- Settles O41: CANCEL by the entry its handle names, CANCEL_GROUP by owner and tag. -/
theorem cancelRemovesTheOwnersEntries : Obligations.CancelRemovesTheOwnersEntries := by
  intro s p tag ho hroom
  obtain ⟨hn, -, -⟩ := hroom
  refine ⟨fun hi lo h => ⟨fun hbad => ?_, fun handle hhandle => ⟨fun hnone => ?_, fun e he heq => ⟨fun hother => ?_, fun hown => ?_⟩⟩⟩,
    fun g h => ⟨fun hbad => ?_, fun hlow hhigh => ?group⟩⟩
  · refine IsRequest.cancel.answered h rfl (.inr ho) ?_
    simp only [cancelBlock, hbad]
    rfl
  · have hnamed : (arrived s p).named handle = none := State.named_none (s := s) hnone
    refine IsRequest.cancel.answered h rfl (.inr ho) ?_
    simp only [cancelBlock, hhandle, hnamed]
    rfl
  · have hnamed : (arrived s p).named handle = some e := heq ▸ State.named_eq (s := s) hn he
    refine IsRequest.cancel.answered h rfl (.inr ho) ?_
    simp only [cancelBlock, hhandle, hnamed, if_neg hother]
    rfl
  · have hnamed : (arrived s p).named handle = some e := heq ▸ State.named_eq (s := s) hn he
    refine IsRequest.cancel.answered h rfl (.inr ho) ?_
    simp only [cancelBlock, hhandle, hnamed, if_pos hown, State.leave, s.arrived_entries, eraseP_slot s.entries _ hn, heq]
    rfl
  · refine IsRequest.cancelGroup.answered h rfl (.inr ho) ?_
    simp only [cancelGroupBlock, if_pos hbad]
    rfl
  case group =>
    have hsame := State.removeEntries_same (arrived s p) (inGroup p g.toNat) fun _ => none
    have hentries := State.removeEntries_entries (arrived s p) (inGroup p g.toNat) (fun _ => none) hn
    refine ⟨_, IsRequest.cancelGroup.answered h rfl (.inr ho)
      (t := (arrived s p).removeQuietly (inGroup p g.toNat)) (st := .ok)
      (items := [byte (s.entries.countP (inGroup p g.toNat))]) ?_, hentries,
      State.removeEntries_slotsFollow (arrived s p) (inGroup p g.toNat) (fun _ => none) hn,
      placeReply_elsewhere tag _ _ hsame.sessions hsame.ports hsame.pending, hsame.tb, hsame.lines, hsame.claims, hsame.channels,
      hsame.reflexes, State.removeQuietly_notices _ _, ?_⟩
    · simp only [cancelGroupBlock, if_neg (show ¬ (g.toNat = 0 ∨ 15 < g.toNat) by omega)]
      rfl
    · have hcount : s.entries.length - ((arrived s p).removeQuietly (inGroup p g.toNat)).entries.length =
          s.entries.countP (inGroup p g.toNat) := by
        rw [State.removeQuietly, hentries, s.arrived_entries, List.length_eq_countP_add_countP (inGroup p g.toNat),
          ← List.countP_eq_length_filter]
        simp
      rw [State.placeReply_entries, hcount]
      exact placeReply_answers ..

end Sys2Proof.Machine

end

section
/-! The status requests on the schedule, the lines and the channels; firing groups; and the state right after reset. -/

set_option Elab.async false

namespace Sys2Proof.Machine

open Sys2Proof.Safety

/-! ## Status requests -/

/-- The first entry in list order that bears a handle is the one it names (R2). -/
theorem State.named_append {s : State} {before behind : List Entry} {e : Entry} (hes : s.entries = before ++ e :: behind)
    (hbefore : ∀ x ∈ before, x.handle ≠ e.handle) : s.named e.handle = some e := by
  rw [State.named, hes, List.find?_append, List.find?_eq_none.mpr fun x hx => by simpa using hbefore x hx]
  simp

/-- Its rank is the number of entries before it (R25). -/
theorem State.rank_append {s : State} {before behind : List Entry} {e : Entry} (hes : s.entries = before ++ e :: behind)
    (hbefore : ∀ x ∈ before, x.handle ≠ e.handle) : s.rank e = before.length := by
  have hnone : ¬ before.findIdx (fun x => decide (x.handle = e.handle)) < before.length := by
    rw [List.findIdx_lt_length]
    rintro ⟨x, hx, heq⟩
    exact hbefore x hx (of_decide_eq_true heq)
  rw [State.rank, hes, List.findIdx_append, if_neg hnone]
  simp [List.findIdx_cons]

theorem State.earliestOwn_eq (s : State) (h : HostId) :
    s.earliestOwn h = (s.entries.filter fun e => decide (e.owner = h)).head?.map Entry.due := by
  rw [State.earliestOwn, List.head?_filter]

/-- Settles O42: each report, record by record. -/
theorem sessionStatusRequestsReport : Obligations.SessionStatusRequestsReport := by
  intro s p tag ho
  refine ⟨fun hi lo before behind e h hhandle hes hbefore => ?query, fun hi lo h => ⟨fun hbad => ?_, fun handle hhandle hnone => ?_⟩,
    fun h => ?schedule, fun b l h hl => ?line, fun b c h hc => ?sense⟩
  case query =>
    have hnamed : (arrived s p).named e.handle = some e := State.named_append (s := s) hes hbefore
    have hrank : (arrived s p).rank e = before.length := State.rank_append (s := s) hes hbefore
    refine IsRequest.queryEntry.answered h rfl (.inr ho) ?_
    simp only [queryEntryBlock, hhandle, hnamed, State.accept, Entry.descriptor, hrank, Handle.bytes, optionsByte, originByte]
    cases e.late <;> rfl
  · refine IsRequest.queryEntry.answered h rfl (.inr ho) ?_
    simp only [queryEntryBlock, hbad]
    rfl
  · have hnamed : (arrived s p).named handle = none := State.named_none (s := s) hnone
    refine IsRequest.queryEntry.answered h rfl (.inr ho) ?_
    simp only [queryEntryBlock, hhandle, hnamed]
    rfl
  case schedule =>
    refine IsRequest.scheduleStatus.answered h rfl (.inr ho) ?_
    have hearliest : (arrived s p).earliestOwn p = s.earliestOwn p := rfl
    have hcount : (arrived s p).ownCount p = (s.entries.filter fun e => decide (e.owner = p)).length :=
      List.countP_eq_length_filter
    simp only [scheduleStatusBlock, State.accept, hearliest, s.earliestOwn_eq p, hcount]
    cases s.entries.filter fun e => decide (e.owner = p) <;> rfl
  case line =>
    refine IsRequest.lineStatus.answered h rfl (.inr ho) ?_
    simp only [lineStatusBlock, lineOf_eq hl]
    change (⟨arrived s p, .ok, s.lineStatus l⟩ : Answer) = _
    simp only [State.lineStatus]
    cases (s.line l).pulse <;> rfl
  case sense =>
    refine IsRequest.senseStatus.answered h rfl (.inr ho) ?_
    simp only [senseStatusBlock, channelOf_eq hc]
    change (⟨arrived s p, .ok, s.senseStatus c⟩ : Answer) = _
    simp only [State.senseStatus]
    cases (s.channel c).last <;> cases s.reflex c <;> rfl

/-! ## Firing groups -/

theorem OutputRec.applyGroup_shared (r : OutputRec) {c : ClaimRec} (hs : c.state = .shared) (g : List LineAction) :
    r.applyGroup c g = match c.policy with
      | .refuse => r.applyInOrder g
      | .setWins => r.applyCombined true g
      | .clearWins => r.applyCombined false g := by
  cases hp : c.policy <;> simp only [OutputRec.applyGroup, hs, hp]

theorem OutputRec.applyGroup_ordered (r : OutputRec) {c : ClaimRec}
    (h : c.state = .exclusive ∨ c.state = .shared ∧ c.policy = .refuse) (g : List LineAction) :
    r.applyGroup c g = r.applyInOrder g := by
  rcases h with h | ⟨h, hp⟩ <;> simp only [OutputRec.applyGroup, h]
  rw [hp]

/-! ### Groups in which order plays no part -/

theorem mem_pulseWidths {g : List LineAction} {w : Nat} : w ∈ pulseWidths g ↔ LineAction.pulse w ∈ g := by
  simp only [pulseWidths, List.mem_filterMap]
  constructor
  · rintro ⟨k, hk, heq⟩
    cases k <;> cases heq
    exact hk
  · exact fun h => ⟨_, h, rfl⟩

theorem widestPulse_eq_max (g : List LineAction) : widestPulse g = (pulseWidths g).max? := by
  unfold widestPulse
  cases pulseWidths g <;> rfl

/-- The widest pulse of a group (R68). -/
theorem widestPulse_eq_some {g : List LineAction} {n : Nat} :
    widestPulse g = some n ↔ LineAction.pulse n ∈ g ∧ ∀ w, LineAction.pulse w ∈ g → w ≤ n := by
  rw [widestPulse_eq_max, List.max?_eq_some_iff]
  simp only [mem_pulseWidths]

theorem widestPulse_eq_none {g : List LineAction} : widestPulse g = none ↔ ∀ w, LineAction.pulse w ∉ g := by
  rw [widestPulse_eq_max, List.max?_eq_none_iff, List.eq_nil_iff_forall_not_mem]
  simp only [mem_pulseWidths]

theorem widestPulse_perm {g₁ g₂ : List LineAction} (h : g₁.Perm g₂) : widestPulse g₁ = widestPulse g₂ := by
  ext n
  simp only [widestPulse_eq_some, h.mem_iff]

theorem OutputRec.applyCombined_perm (r : OutputRec) (setWins : Bool) {g₁ g₂ : List LineAction} (h : g₁.Perm g₂) :
    r.applyCombined setWins g₁ = r.applyCombined setWins g₂ := by
  have hasked := h.filterMap r.asks
  simp only [OutputRec.applyCombined, widestPulse_perm h, hasked.any_eq, hasked.all_eq]

/-- A level is asked for by the action that names it, and by a PULSE where it is the active level (R67). -/
theorem OutputRec.mem_asked (r : OutputRec) (g : List LineAction) (v : Level) :
    v ∈ g.filterMap r.asks ↔
      (if v then LineAction.set else LineAction.clear) ∈ g ∨ (∃ w, LineAction.pulse w ∈ g) ∧ r.active = v := by
  simp only [List.mem_filterMap]
  constructor
  · rintro ⟨k, hk, hasks⟩
    cases k with
    | set => cases hasks; exact .inl hk
    | clear => cases hasks; exact .inl hk
    | toggle => cases hasks
    | pulse w => exact .inr ⟨⟨w, hk⟩, Option.some.inj hasks⟩
  · rintro (hk | ⟨⟨w, hk⟩, hv⟩)
    · refine ⟨_, hk, ?_⟩
      cases v <;> rfl
    · exact ⟨_, hk, congrArg some hv⟩

theorem OutputRec.applyCombined_level (r : OutputRec) (setWins : Bool) (g : List LineAction) :
    (r.applyCombined setWins g).level = setWins ↔ setWins ∈ g.filterMap r.asks := by
  cases setWins with
  | true =>
    change (g.filterMap r.asks).any id = true ↔ _
    simp only [List.any_eq_true, id_eq, exists_eq_right]
  | false =>
    change (g.filterMap r.asks).all id = false ↔ _
    simp only [List.all_eq_false, id_eq, Bool.not_eq_true, exists_eq_right]

theorem OutputRec.applyCombined_pulse (r : OutputRec) (setWins : Bool) (g : List LineAction) :
    (r.applyCombined setWins g).pulse = if (r.applyCombined setWins g).level = r.active then widestPulse g else none := rfl

/-! ### Groups in list order -/

/-- What an action cannot change (R65). -/
def SameOutput (r q : OutputRec) : Prop := q.output = r.output ∧ q.heldLevel = r.heldLevel ∧ q.settings = r.settings

theorem GroupRun.apply_same (g : GroupRun) (k : LineAction) : SameOutput g.out (g.apply k).out := by
  cases k <;> exact ⟨rfl, rfl, rfl⟩

theorem foldl_apply_same (g : List LineAction) (run : GroupRun) : SameOutput run.out (g.foldl GroupRun.apply run).out := by
  induction g generalizing run with
  | nil => exact ⟨rfl, rfl, rfl⟩
  | cons k g ih =>
    obtain ⟨houtput, hheld, hsettings⟩ := run.apply_same k
    obtain ⟨houtput', hheld', hsettings'⟩ := ih (run.apply k)
    exact ⟨houtput'.trans houtput, hheld'.trans hheld, hsettings'.trans hsettings⟩

/-- No group changes the output state, the held level or the settings. -/
theorem OutputRec.applyGroup_same (r : OutputRec) (c : ClaimRec) (g : List LineAction) : SameOutput r (r.applyGroup c g) := by
  unfold OutputRec.applyGroup
  cases c.state with
  | free => exact ⟨rfl, rfl, rfl⟩
  | exclusive => exact foldl_apply_same g _
  | shared => cases c.policy with
    | refuse => exact foldl_apply_same g _
    | setWins => exact ⟨rfl, rfl, rfl⟩
    | clearWins => exact ⟨rfl, rfl, rfl⟩

theorem OutputRec.applyInOrder_append (r : OutputRec) (g : List LineAction) (k : LineAction) :
    r.applyInOrder (g ++ [k]) = ((g.foldl GroupRun.apply ⟨r, false⟩).apply k).out := by
  rw [OutputRec.applyInOrder, List.foldl_append]
  rfl

/-- A group that ends in no PULSE leaves none of its own running (R66). -/
theorem foldl_apply_ownPulse (g : List LineAction) (r : OutputRec) (h : ∀ w, g.getLast? ≠ some (.pulse w)) :
    (g.foldl GroupRun.apply ⟨r, false⟩).ownPulse = false := by
  rcases List.eq_nil_or_concat g with rfl | ⟨init, k, rfl⟩
  · rfl
  · rw [List.concat_eq_append] at h ⊢
    rw [List.foldl_append]
    cases k with
    | pulse w => exact absurd List.getLast?_concat (h w)
    | set => rfl
    | clear => rfl
    | toggle => rfl

/-- PULSEs in a row behind one of the group's own: the widest stands (R66). -/
theorem foldl_pulses (ws : List Nat) (run : GroupRun) (n : Nat) (hown : run.ownPulse = true) (hpulse : run.out.pulse = some n)
    (hlevel : run.out.level = run.out.active) :
    ((ws.map LineAction.pulse).foldl GroupRun.apply run).out.level = run.out.active ∧
      ∃ m, ((ws.map LineAction.pulse).foldl GroupRun.apply run).out.pulse = some m ∧ m ∈ n :: ws ∧ ∀ x ∈ n :: ws, x ≤ m := by
  induction ws generalizing run n with
  | nil => exact ⟨hlevel, n, hpulse, List.mem_singleton.mpr rfl, fun x hx => (List.mem_singleton.mp hx).le⟩
  | cons w ws ih =>
    have hwider : (run.apply (.pulse w)).out.pulse = some (max w n) := by
      simp only [GroupRun.apply, hown, if_true, hpulse, Option.getD_some]
    obtain ⟨hl, m, hm, hmem, hmax⟩ := ih (run.apply (.pulse w)) (max w n) rfl hwider rfl
    have hle := hmax _ List.mem_cons_self
    refine ⟨hl, m, hm, ?_, fun x hx => ?_⟩
    · rcases List.mem_cons.mp hmem with rfl | hmem
      · rcases Nat.le_total w n with hwn | hwn
        · rw [Nat.max_eq_right hwn]
          exact List.mem_cons_self
        · rw [Nat.max_eq_left hwn]
          exact List.mem_cons_of_mem _ List.mem_cons_self
      · exact List.mem_cons_of_mem _ (List.mem_cons_of_mem _ hmem)
    · rcases List.mem_cons.mp hx with rfl | hx
      · exact (Nat.le_max_right w _).trans hle
      · rcases List.mem_cons.mp hx with rfl | hx
        · exact (Nat.le_max_left _ n).trans hle
        · exact hmax x (List.mem_cons_of_mem _ hx)

/-- Settles O49: groups by policy, in list order or not. -/
theorem firingGroupsCombineByPolicy : Obligations.FiringGroupsCombineByPolicy := by
  intro r c
  have hsame (g : List LineAction) : (r.applyGroup c g).active = r.active :=
    congrArg (fun t : LineSettings => !t.idle) (r.applyGroup_same c g).2.2
  refine ⟨fun hfree g => ?_, fun g₁ g₂ hperm hs hpolicy => ?_, fun g hs => ⟨fun hpolicy => ?_, fun hpolicy _ => ?_, fun hpolicy => ?pulses⟩,
    fun g hordered => ?ordered, fun g => r.applyGroup_same c g⟩
  · simp only [OutputRec.applyGroup, hfree]
  · rw [r.applyGroup_shared hs, r.applyGroup_shared hs]
    cases hp : c.policy with
    | refuse => exact absurd hp hpolicy
    | setWins => exact r.applyCombined_perm true hperm
    | clearWins => exact r.applyCombined_perm false hperm
  · rw [r.applyGroup_shared hs, hpolicy]
    refine (r.applyCombined_level true g).trans ((r.mem_asked g true).trans ?_)
    simp [OutputRec.active]
  · rw [r.applyGroup_shared hs, hpolicy]
    refine (r.applyCombined_level false g).trans ((r.mem_asked g false).trans ?_)
    simp [OutputRec.active]
  case pulses =>
    obtain ⟨setWins, heq⟩ : ∃ setWins, r.applyGroup c g = r.applyCombined setWins g := by
      rw [r.applyGroup_shared hs]
      cases hp : c.policy with
      | refuse => exact absurd hp hpolicy
      | setWins => exact ⟨true, rfl⟩
      | clearWins => exact ⟨false, rfl⟩
    rw [heq]
    refine ⟨fun hends => ?_, fun ⟨w, hw⟩ hactive => ?_⟩
    · rw [r.applyCombined_pulse]
      split
      · next hactive =>
        refine widestPulse_eq_none.mpr (hends.resolve_right fun hidle => ?_)
        rw [hidle, OutputRec.active] at hactive
        cases hi : r.settings.idle <;> rw [hi] at hactive <;> cases hactive
      · rfl
    · rw [r.applyCombined_pulse, if_pos (show _ = r.active from hactive)]
      cases hwidest : widestPulse g with
      | none => exact absurd hw (widestPulse_eq_none.mp hwidest w)
      | some n => exact ⟨n, rfl, widestPulse_eq_some.mp hwidest⟩
  case ordered =>
    simp only [r.applyGroup_ordered hordered, OutputRec.applyInOrder_append]
    refine ⟨rfl, ⟨rfl, rfl⟩, ⟨rfl, rfl⟩, ⟨rfl, rfl⟩, ?_⟩
    rintro hlast w ws _ rfl
    obtain ⟨run, hrun⟩ : ∃ run, run = g.foldl GroupRun.apply ⟨r, false⟩ := ⟨_, rfl⟩
    have hown : run.ownPulse = false := hrun ▸ foldl_apply_ownPulse g r hlast
    have hsettings : run.out.settings = r.settings := hrun ▸ (foldl_apply_same g ⟨r, false⟩).2.2
    have hfold : r.applyInOrder (g ++ (w :: ws).map LineAction.pulse) =
        ((ws.map LineAction.pulse).foldl GroupRun.apply (run.apply (.pulse w))).out := by
      rw [OutputRec.applyInOrder, List.foldl_append, ← hrun]
      rfl
    have hpulse : (run.apply (.pulse w)).out.pulse = some w := by
      simp only [GroupRun.apply, hown, Bool.false_eq_true, if_false]
    obtain ⟨hlevel, n, hn⟩ := foldl_pulses ws (run.apply (.pulse w)) w rfl hpulse rfl
    rw [hfold]
    refine ⟨hlevel.trans ?_, n, hn⟩
    change (!run.out.settings.idle) = _
    rw [hsettings]

/-! ## Right after reset -/

/-- An empty schedule meets its invariants. -/
theorem schedule_empty {s : State} (h : s.entries = []) :
    ScheduleInRoom s ∧ HandlesCurrent s ∧ ScheduleDueLater s ∧ EntriesOwned s ∧ NoCollisions s ∧ RecurrencesInRange s := by
  simp [ScheduleInRoom, HandlesCurrent, ScheduleDueLater, EntriesOwned, NoCollisions, RecurrencesInRange, State.total,
    State.ownCount, h]

/-- Settles O4: the invariants at the reset values. -/
theorem resetMeetsEveryInvariant : Obligations.ResetMeetsEveryInvariant := by
  have hreset : State.reset = State.reset.deviceReset ⟨true, .const false⟩ 0 := rfl
  have hat : AtReset State.reset := hreset ▸ State.deviceReset_atReset ..
  have hsession (h : HostId) : State.reset.session h = .reset := (hat.hosts h).1
  have hnotice (h : HostId) : State.reset.noticeRec h = .reset := (hat.hosts h).2.1
  have hclaim (l : LineId) : State.reset.claim l = .cleared := (hat.lines l).2
  have hreflex (c : ChannelId) : State.reset.reflex c = none := (hat.channels c).2
  have hchannel (c : ChannelId) : State.reset.channel c = .reset ((0 : BitVec 8).getLsbD c.val) :=
    hreset ▸ State.deviceReset_channel ..
  have hport (p : HostId) : State.reset.port p = .reset false := by cases p <;> rfl
  refine ⟨⟨?_, ?_, ?_, ?_⟩, ⟨fun h => ?_, fun h => ?_, fun h => ?_, fun h => ?_⟩, ⟨fun l => ?_, fun l => ?_, fun l _ => ?_⟩,
    ⟨fun c => ?_, fun c => ?_, fun c r hr => ?_⟩,
    schedule_empty hat.entries, fun h _ => ?_, fun p => ?_,
    fun _ => ⟨hat.tb, hat.entries, hat.lines, hat.channels, hat.hosts⟩⟩
  · exact ⟨by decide, by decide, nofun, by decide, by decide, fun _ => rfl, by decide, by decide⟩
  · exact ⟨fun _ => by decide, fun h => absurd h (by decide)⟩
  · exact ⟨nofun, fun h => absurd h (by decide)⟩
  · exact fun _ => rfl
  · rw [hnotice, hsession]
    rfl
  · rw [hnotice]
    decide
  · rw [hnotice, hport]
    decide
  · rw [hsession, hnotice]
    exact ⟨fun _ => by decide, fun h => absurd h (by decide)⟩
  · rw [hclaim]
    exact ⟨fun _ => by decide, fun h => absurd h (by decide), fun h => absurd h (by decide)⟩
  · rw [hclaim]
    exact ⟨.nil, nofun, fun h => absurd h (by decide)⟩
  · exact (hat.lines l).1
  · rw [hchannel, hreflex]
    exact ⟨⟨fun _ => rfl, fun _ => rfl⟩, fun _ => rfl, nofun⟩
  · rw [hchannel]
    exact ⟨Nat.le_refl 0, Nat.zero_le 2⟩
  · rw [hreflex] at hr
    cases hr
  · refine ⟨by rw [State.ownCount, hat.entries]; rfl, fun c => ⟨?_, fun r hr => ?_⟩, fun l => ?_, nofun⟩
    · rw [hchannel]
      exact Quad.get_const _ h
    · rw [hreflex] at hr
      cases hr
    · rw [hclaim]
      exact ⟨Quad.get_const _ h, rfl⟩
  · rw [hport]
    exact ⟨fun h => absurd h (by decide), by decide, by decide, nofun⟩

end Sys2Proof.Machine

end

section
/-! What an operation sends every host, and how the operations' notices add up: one rule for each operation that tells hosts
something. -/

set_option Elab.async false

namespace Sys2Proof.Machine

open Sys2Proof.Safety

/-! ## Operations that tell hosts something -/

/-- Every host has been sent its notices of `news`, in that order, and no other, and the sessions stand. -/
structure Tells (s t : State) (news : HostId → List (Time × NoticeBody)) : Prop where
  sessions : t.sessions = s.sessions
  receives : ∀ h, Receives s t h (news h)

section Compose

variable {s t u : State} {news more : HostId → List (Time × NoticeBody)}

theorem Tells.silent (hsessions : t.sessions = s.sessions) (hnotices : t.notices = s.notices) : Tells s t fun _ => [] :=
  ⟨hsessions, fun _ => .nothing (congrArg (Quad.get · _) hnotices)⟩

theorem Tells.refl (s : State) : Tells s s fun _ => [] := .silent rfl rfl

theorem Tells.trans (h : Tells s t news) (k : Tells t u more) : Tells s u fun j => news j ++ more j :=
  ⟨k.sessions.trans h.sessions, fun j => (h.receives j).append (by rw [State.session, h.sessions]) (k.receives j)⟩

theorem Tells.congr (h : Tells s t news) (heq : ∀ j, more j = news j) : Tells s t more :=
  ⟨h.sessions, fun j => heq j ▸ h.receives j⟩

/-- What is told behind a step that tells nothing. -/
theorem Tells.behind (h : Tells t u news) (hsessions : t.sessions = s.sessions) (hnotices : t.notices = s.notices) : Tells s u news :=
  ((Tells.silent hsessions hnotices).trans h).congr fun _ => rfl

/-- A step that tells nothing, behind what is told. -/
theorem Tells.before (h : Tells s t news) (hsessions : u.sessions = t.sessions) (hnotices : u.notices = t.notices) : Tells s u news :=
  (h.trans (Tells.silent hsessions hnotices)).congr fun _ => (List.append_nil _).symm

/-- Steps one after another, what each tells being fixed by the records that a property of the state pins down. -/
theorem Tells.foldl {α : Type} (P : State → Prop) {take : State → α → State} {each : α → HostId → List (Time × NoticeBody)}
    (xs : List α) (hstep : ∀ t, ∀ x ∈ xs, P t → P (take t x) ∧ Tells t (take t x) (each x)) (s : State) (hs : P s) :
    Tells s (xs.foldl take s) fun h => xs.flatMap (each · h) := by
  induction xs generalizing s with
  | nil => exact .refl s
  | cons x xs ih =>
    obtain ⟨hnext, htold⟩ := hstep s x List.mem_cons_self hs
    exact htold.trans (ih (fun t y hy => hstep t y (List.mem_cons_of_mem x hy)) (take s x) hnext)

end Compose

/-! ## Notices -/

theorem State.notifyAt_tells (s : State) (h : HostId) (stamp : Time) (body : NoticeBody) :
    Tells s (s.notifyAt h stamp body) fun k => if h = k then [(stamp, body)] else [] := by
  refine ⟨(s.notifyAt_same h stamp body).sessions, fun k => ?_⟩
  by_cases hk : h = k
  · subst hk
    rw [if_pos rfl]
    exact .one s h stamp body
  · rw [if_neg hk]
    exact .nothing (s.notifyAt_noticeRec_ne stamp body (Ne.symm hk))

/-- A list of hosts that may name one more than once: it is sent a copy each time. -/
theorem State.notifyEach_tells (s : State) (hs : List HostId) (stamp : Time) (body : NoticeBody) :
    Tells s (s.notifyEach hs stamp body) fun k => (hs.filter fun h => decide (h = k)).map fun _ => (stamp, body) := by
  refine (Tells.foldl (fun _ => True) hs (fun t h _ _ => ⟨trivial, t.notifyAt_tells h stamp body⟩) s trivial).congr fun k => ?_
  induction hs with
  | nil => rfl
  | cons h hs ih =>
    by_cases hk : h = k
    · simp only [List.filter_cons, hk, decide_true, if_true, List.map_cons, List.flatMap_cons, List.singleton_append] at ih ⊢
      rw [← ih]
    · simpa [List.filter_cons, hk] using ih

/-- A notice to the holder and the watchers of `s`, and to the host whose hold has just ended (R59). -/
theorem State.tellTimebase_tells (s : State) (stamp : Time) (body : NoticeBody) (extra : Option HostId) :
    Tells s (s.tellTimebase stamp body extra) fun h =>
      if s.tb.holder = some h ∨ s.watches h = true ∨ extra = some h then [(stamp, body)] else [] := by
  refine ⟨(s.tellTimebase_same stamp body extra).sessions, fun h => ?_⟩
  refine Eq.mp (congrArg (Receives s _ h) (if_congr (s.mem_tbAddressees extra h) rfl rfl)) ?_
  exact Receives.each s _ (s.tbAddressees_nodup extra) stamp body h

/-- The timebase notice of a state that has the hold and the sessions of `s`. -/
theorem State.tellTimebase_news {s u : State} (hholder : u.tb.holder = s.tb.holder) (hsessions : u.sessions = s.sessions)
    (stamp : Time) (body : NoticeBody) : Tells u (u.tellTimebase stamp body) fun h => timebaseNews s h stamp body := by
  refine (u.tellTimebase_tells stamp body none).congr fun h => ?_
  have hwatches : u.watches h = s.watches h := by simp only [State.watches, State.session, hsessions]
  simp only [timebaseNews, hholder, hwatches, reduceCtorEq, or_false]

theorem State.tellMode_news {s u : State} {mode : TbMode} (hholder : u.tb.holder = s.tb.holder) (hsessions : u.sessions = s.sessions)
    (hnow : u.tb.now = s.tb.now) (hmode : u.tb.mode = mode) (cause : TbCause) :
    Tells u (u.tellMode cause) fun h => timebaseNews s h s.tb.now (.tbState mode cause) :=
  (State.tellTimebase_news hholder hsessions u.now (.tbState u.tb.mode cause)).congr fun h => by rw [State.now, hnow, hmode]

theorem State.setTb_tellMode_tells (s : State) {t : Timebase} {mode : TbMode} (hholder : t.holder = s.tb.holder)
    (hnow : t.now = s.tb.now) (hmode : t.mode = mode) (cause : TbCause) :
    Tells s ((s.setTb t).tellMode cause) fun h => timebaseNews s h s.tb.now (.tbState mode cause) :=
  (State.tellMode_news (u := s.setTb t) hholder rfl hnow hmode cause).behind rfl rfl

/-- The timebase notice of a state whose hold, that of `s`, has just ended (R59). -/
theorem State.tellTimebase_released {s u : State} {h : HostId} (hheld : s.tb.holder = some h) (hholder : u.tb.holder = none)
    (hsessions : u.sessions = s.sessions) (stamp : Time) (body : NoticeBody) :
    Tells u (u.tellTimebase stamp body (some h)) fun k => timebaseNews s k stamp body := by
  refine (u.tellTimebase_tells stamp body (some h)).congr fun k => ?_
  have hwatches : u.watches k = s.watches k := by simp only [State.watches, State.session, hsessions]
  simp only [timebaseNews, hheld, hholder, hwatches, reduceCtorEq, false_or, or_comm]

/-! ## Entries and reflexes that leave -/

theorem State.removeEntries_tells (s : State) (goes : Entry → Bool) (body : Handle → NoticeBody) :
    Tells s (s.removeEntries goes fun h => some (body h)) fun h => removalNews s h goes body := by
  rw [s.removeEntries_fold]
  refine (Tells.foldl (fun t => t.tb = s.tb) (each := fun e h => if e.owner = h then [(s.tb.now, body e.handle)] else []) _
    (fun t e _ ht => ⟨(t.removeOne_same _ e).tb.trans ht, ?_⟩) s rfl).congr fun h => ?_
  · have hnow : (t.leave e).now = s.tb.now := congrArg Timebase.now (((t.leave_same e).tb).trans ht)
    simpa only [State.removeOne, State.notify, hnow] using
      ((t.leave e).notifyAt_tells e.owner (t.leave e).now (body e.handle)).behind (s := t) rfl rfl
  · rw [removalNews, ← List.filter_filter]
    induction s.entries.filter goes with
    | nil => rfl
    | cons e es ih => by_cases he : e.owner = h <;> simp [he, ih]

theorem State.evict_tells (s : State) (goes : Entry → Bool) (reason : EvictReason) :
    Tells s (s.evict goes reason) fun h => removalNews s h goes (.evicted · reason) :=
  s.removeEntries_tells goes _

theorem removalNews_congr {s t : State} {goes left : Entry → Bool} (hentries : t.entries = s.entries) (hnow : t.tb.now = s.tb.now)
    (hgoes : ∀ e ∈ s.entries, left e = goes e) (h : HostId) (body : Handle → NoticeBody) :
    removalNews s h goes body = removalNews t h left body := by
  simp only [removalNews, hentries, hnow]
  congr 1
  exact List.filter_congr fun e he => congrArg _ (hgoes e he).symm

theorem State.discardEvict_tb (s : State) : s.discardEvict.tb = s.tb := (s.evict_same _ _).tb

/-- What a discard evicts is told to the owners (R21, R44). -/
theorem State.discardEvict_tells {s u : State} (hsessions : u.sessions = s.sessions) (hnotices : u.notices = s.notices)
    (hentries : u.entries = s.entries) (hnow : u.tb.now = s.tb.now) (hlapses : ∀ e, lapses u e = lapses s e) :
    Tells s u.discardEvict fun k => removalNews s k (lapses s) (.evicted · .frameLength) :=
  ((u.evict_tells _ _).behind hsessions hnotices).congr fun k =>
    removalNews_congr hentries hnow (fun e _ => (u.discardEvicts_eq_lapses e).trans (hlapses e)) k _

/-! ## Slots whose entries leave -/

theorem SlotsFollow.congr {s t s' t' : State} (h : SlotsFollow s t) (hs : s'.entries.map (·.handle) = s.entries.map (·.handle))
    (hsuses : s'.uses = s.uses) (ht : t'.entries.map (·.handle) = t.entries.map (·.handle)) (htuses : t'.uses = t.uses) :
    SlotsFollow s' t' := by
  have mem (es : List Entry) (i : SlotId) : (∃ e ∈ es, e.handle.slot = i) ↔ ∃ x ∈ es.map (·.handle), x.slot = i := by simp
  have all (es : List Entry) (i : SlotId) : (∀ e ∈ es, e.handle.slot ≠ i) ↔ ∀ x ∈ es.map (·.handle), x.slot ≠ i := by simp
  intro i
  simp only [mem, all, hs, ht, hsuses, htuses]
  simpa only [mem, all] using h i

theorem SlotsFollow.same {s t : State} (hentries : t.entries = s.entries) (huses : t.uses = s.uses) : SlotsFollow s t := by
  intro i
  rw [hentries, huses, if_neg]
  rintro ⟨⟨e, he, hi⟩, hall⟩
  exact hall e he hi

/-! ## Requests to the timebase -/

/-- The records that a timebase request may change. -/
abbrev Touched.steering : Touched := { tb := true, entries := true, uses := true, notices := true, choices := true }

/-- What a block tells is what its request tells: neither the arrival of a frame nor its reply tells anything. -/
theorem answered_receives {s u : State} {p : HostId} {news : HostId → List (Time × NoticeBody)} (tag : Byte) (st : Status)
    (items : List Byte) (htold : Tells (arrived s p) u news) (h : HostId) : Receives s (u.placeReply p tag st items) h (news h) := by
  have hfirst : Receives s u h ([] ++ news h) :=
    Receives.append (t := arrived s p) (.nothing rfl) (s.arrived_isOpen p h) (htold.receives h)
  exact hfirst

/-- What the answer to a timebase request leaves alone, and what it sends. -/
theorem steered {s u : State} {p : HostId} {news : HostId → List (Time × NoticeBody)} (tag : Byte) (st : Status) (items : List Byte)
    (htouched : OnlyTouches .steering (arrived s p) u) (htold : Tells (arrived s p) u news) :
    (u.placeReply p tag st items).lines = s.lines ∧ (u.placeReply p tag st items).claims = s.claims ∧
      (u.placeReply p tag st items).channels = s.channels ∧ (u.placeReply p tag st items).reflexes = s.reflexes ∧
      Elsewhere s (u.placeReply p tag st items) p ∧ Answers (u.placeReply p tag st items) p tag st items ∧
      ∀ h, Receives s (u.placeReply p tag st items) h (news h) := by
  exact ⟨htouched.lines rfl, htouched.claims rfl, htouched.channels rfl, htouched.reflexes rfl,
    placeReply_elsewhere tag st items (htouched.sessions rfl) (htouched.ports rfl) htouched.pending, placeReply_answers ..,
    answered_receives tag st items htold⟩

/-- The arrival of a frame leaves the addressees of a timebase notice as they were. -/
theorem timebaseNews_arrived (s : State) (p h : HostId) (stamp : Time) (body : NoticeBody) :
    timebaseNews (arrived s p) h stamp body = timebaseNews s h stamp body := by
  have hwatches : (arrived s p).watches h = s.watches h := by
    rw [State.watches, State.session, s.arrived_session]
    rfl
  rw [timebaseNews, timebaseNews, hwatches]
  rfl

/-! ## TB_RELEASE -/

theorem State.endDiscards_iff {s : State} {h : HostId} :
    s.endDiscards h = true ↔ s.tb.holder = some h ∧ s.tb.mode = .running ∧ s.tb.hasPlans = true := by
  simp [State.endDiscards, and_assoc]

section Discard

variable {s : State} {h : HostId} (hd : s.endDiscards h = true)

include hd

/-- A hold that ends while RUNNING with plans discards them: evictions, and DISCARD behind them (R36, R44, R60). -/
theorem State.endHold_tells : Tells s (s.endHold h) fun k =>
    removalNews s k (lapses s) (.evicted · .frameLength) ++ timebaseNews s k s.tb.now (.tbState .running .discard) := by
  obtain ⟨hholder, hmode, hplans⟩ := State.endDiscards_iff.mp hd
  rw [State.endHold, if_pos hholder]
  generalize hu : s.setTb { s.tb with holder := none } = u
  have htb : u.tb = { s.tb with holder := none } := hu ▸ rfl
  have hlapses (e : Entry) : lapses u e = lapses s e := hu ▸ rfl
  have hsessions : u.sessions = s.sessions := hu ▸ rfl
  have hgone := State.discardEvict_tells hsessions (hu ▸ rfl) (hu ▸ rfl) (by rw [htb]) hlapses
  have hdropped : u.discardEvict.dropPlans.tb = { s.tb with holder := none, staged := none, pendingStop := false } := by
    rw [State.dropPlans, State.setTb_tb, State.discardEvict_tb, htb]
  rw [State.discardOnRelease, if_pos ⟨(congrArg Timebase.mode htb).trans hmode, by rw [htb]; exact hplans⟩]
  refine ((hgone.before (u := u.discardEvict.dropPlans) rfl rfl).trans
    (State.tellTimebase_released hholder (congrArg Timebase.holder hdropped) ((u.evict_same _ _).sessions.trans hsessions) _
      _)).congr fun k => ?_
  simp only [State.now, hdropped, hmode]

theorem State.endHold_slotsFollow (hn : (s.entries.map fun e => e.handle.slot).Nodup) : SlotsFollow s (s.endHold h) := by
  obtain ⟨hholder, hmode, hplans⟩ := State.endDiscards_iff.mp hd
  unfold State.endHold State.discardOnRelease
  rw [if_pos hholder, if_pos ⟨hmode, hplans⟩]
  refine SlotsFollow.congr (t := State.discardEvict _) (State.evict_slotsFollow (s.setTb { s.tb with holder := none }) _ .frameLength hn)
    rfl rfl
    (congrArg (List.map _) ?_) ?_
  · exact (State.tellMode_touches _ _ _).entries rfl
  · exact (State.tellMode_touches _ _ _).uses rfl

end Discard

/-- Settles O26: the hold's end, with and without plans to discard. -/
theorem tbReleaseGivesUpTheHold : Obligations.TbReleaseGivesUpTheHold := by
  intro s p tag h ho hroom
  refine ⟨fun hother => ?_, fun hheld hplain => ?_, fun hheld hrun hplanned => ?_⟩
  · refine IsRequest.tbRelease.answered h rfl (.inr ho) ?_
    exact if_neg hother
  · refine IsRequest.tbRelease.answered h rfl (.inr ho) ?_
    refine (if_pos hheld).trans ?_
    have hplans : ¬ (s.tb.mode = .running ∧ s.tb.hasPlans) := by
      rintro ⟨hrun, hplans⟩
      rcases hplain with hstill | hnone
      · exact hstill hrun
      · exact absurd hplans (by simp [Timebase.hasPlans, hnone])
    exact congrArg (fun u : State => u.accept []) (if_neg hplans)
  · have hd : (arrived s p).endDiscards p = true := by
      simpa [State.endDiscards, hheld, hrun, Timebase.hasPlans] using hplanned
    have hblock : tbReleaseBlock p [] (arrived s p) = ⟨(arrived s p).endHold p, .ok, []⟩ := by
      simp only [tbReleaseBlock, State.endHold, State.arrived_tb, hheld, if_true]
      rfl
    refine ⟨_, IsRequest.tbRelease.answered h rfl (.inr ho) hblock, ?_, ?_, ?_,
      steered tag _ _ ((State.endHold_touches _ p).mono rfl)
        ((State.endHold_tells hd).congr fun k => by rw [timebaseNews_arrived]; rfl)⟩
    · refine (State.endHold_tb (arrived s p) p).trans ?_
      simp only [Timebase.without, State.arrived_tb, hheld, hrun, if_true]
    · exact (State.endHold_entries (arrived s p) p hroom.1 hd)
    · exact SlotsFollow.congr (State.endHold_slotsFollow hd hroom.1) rfl rfl rfl rfl

/-! ## TB_START -/

/-- A restart's schedule: the recurring entries, each due in the frame that its lead counts from 0 (R22). -/
def State.restarted (s : State) : List Entry :=
  (s.entries.filter fun e => e.recurrence.isSome).map fun e => { e with due := ⟨BitVec.ofNat 16 (s.leadIn e), e.due.phase⟩ }

section Restart

variable (s : State)

theorem State.evictOnce_entries (hn : (s.entries.map fun e => e.handle.slot).Nodup) :
    (s.evict (fun e => e.recurrence.isNone) .restart).entries = s.entries.filter fun e => e.recurrence.isSome :=
  (s.evict_entries _ _ hn).trans (List.filter_congr fun e _ => by cases e.recurrence <;> rfl)

theorem State.restart_entries (hn : (s.entries.map fun e => e.handle.slot).Nodup) : s.restart.entries = s.restarted := by
  have hlead (e : Entry) : (s.evict (fun e => e.recurrence.isNone) .restart).leadIn e = s.leadIn e := by
    rw [State.leadIn, State.leadIn, State.now, (s.evict_same _ _).tb]
  change List.map _ (s.evict (fun e => e.recurrence.isNone) .restart).entries = _
  rw [s.evictOnce_entries hn]
  simp only [hlead]
  rfl

theorem State.restart_slotsFollow (hn : (s.entries.map fun e => e.handle.slot).Nodup) : SlotsFollow s s.restart := by
  refine SlotsFollow.congr (s.evict_slotsFollow _ .restart hn) rfl rfl ?_ rfl
  change List.map _ (List.map _ (s.evict (fun e => e.recurrence.isNone) .restart).entries) = _
  rw [List.map_map]
  rfl

theorem State.restart_tells : Tells s s.restart fun h => removalNews s h (fun e => e.recurrence.isNone) (.evicted · .restart) :=
  (s.evict_tells _ _).before rfl rfl

end Restart

section Start

variable (s : State) (f : StartFields)

/-- The schedule's part of a start. -/
def State.beginning : State := if f.restart then s.restart else s

theorem State.startTimebase_eq :
    s.startTimebase f =
      ((s.beginning f).setTb (s.tb.started f)).tellTimebase s.now
        (.tbState (if f.onSync then .awaitingSync else .running) .start) := by
  unfold State.startTimebase State.beginning Timebase.started
  cases hr : f.restart
  · rfl
  · simp only [if_true, s.restart_tb]

theorem State.beginning_tells : Tells s (s.beginning f) fun h =>
    if f.restart then removalNews s h (fun e => e.recurrence.isNone) (.evicted · .restart) else [] := by
  unfold State.beginning
  cases f.restart
  · exact .refl s
  · exact s.restart_tells

theorem State.startTimebase_entries (hn : (s.entries.map fun e => e.handle.slot).Nodup) :
    (s.startTimebase f).entries = if f.restart then s.restarted else s.entries := by
  rw [s.startTimebase_eq, (State.tellTimebase_same _ _ _ _).entries, State.setTb_entries, State.beginning]
  cases f.restart
  · rfl
  · exact s.restart_entries hn

theorem State.startTimebase_slotsFollow (hn : (s.entries.map fun e => e.handle.slot).Nodup) :
    SlotsFollow s (s.startTimebase f) := by
  have hbegun : SlotsFollow s (s.beginning f) := by
    unfold State.beginning
    cases f.restart
    · exact SlotsFollow.same rfl rfl
    · exact s.restart_slotsFollow hn
  rw [s.startTimebase_eq]
  exact SlotsFollow.congr hbegun rfl rfl (congrArg (List.map _) (State.tellTimebase_same _ _ _ _).entries) (State.tellTimebase_same _ _ _ _).uses

theorem State.startTimebase_tells : Tells s (s.startTimebase f) fun h =>
    (if f.restart then removalNews s h (fun e => e.recurrence.isNone) (.evicted · .restart) else []) ++
      timebaseNews s h s.tb.now (.tbState (if f.onSync then .awaitingSync else .running) .start) := by
  rw [s.startTimebase_eq]
  exact ((s.beginning_tells f).before (u := (s.beginning f).setTb (s.tb.started f)) rfl rfl).trans
    (State.tellTimebase_news (s := s) (u := (s.beginning f).setTb (s.tb.started f)) rfl (s.beginning_tells f).sessions _ _)

end Start

/-- The record whose pending stop a RESUME has cancelled (R41). -/
def Timebase.stopCancelled (t : Timebase) (limit : Nat) : Timebase := { t with pendingStop := false, runLimit := limit }

/-- Settles O27: a start, the refusals, and the cancelled stop. -/
theorem tbStartStartsTheTimebase : Obligations.TbStartStartsTheTimebase := by
  intro s p tag mode source r1 r0 onSync restart h ho hmode hsource
  have hblock (hheld : s.tb.holder = some p) :
      tbStartBlock p [mode, source, r1, r0] (arrived s p) = (arrived s p).startOutcome ⟨onSync, restart, number2 r1 r0⟩ := by
    simp only [tbStartBlock, hmode, hsource]
    exact if_pos hheld
  refine ⟨fun hother => ?_, fun hheld hroom => ⟨fun hstill hpresent => ?start, fun hstill habsent => ?_,
    fun hrun hpending hresume => ?cancel, fun hbusy => ?_⟩⟩
  · refine IsRequest.tbStart.answered h rfl (.inr ho) ?_
    simp only [tbStartBlock, hmode, hsource]
    exact if_neg hother
  case start =>
    refine ⟨_, IsRequest.tbStart.answered h rfl (.inr ho)
      (t := (arrived s p).startTimebase ⟨onSync, restart, number2 r1 r0⟩) (st := .ok) (items := []) ?_, ?_,
      (State.startTimebase_entries _ _ hroom.1), SlotsFollow.congr (State.startTimebase_slotsFollow (arrived s p) _ hroom.1) rfl rfl rfl rfl,
      steered tag _ _ ((State.startTimebase_touches _ _).mono rfl)
        ((State.startTimebase_tells _ _).congr fun k => by rw [timebaseNews_arrived]; rfl)⟩
    · rw [hblock hheld]
      rcases hstill with hm | hm <;> simp only [State.startOutcome, State.arrived_tb, hm, hpresent] <;> rfl
    · exact State.startTimebase_tb _ _
  · refine IsRequest.tbStart.answered h rfl (.inr ho) ((hblock hheld).trans ?_)
    rcases hstill with hm | hm <;> simp only [State.startOutcome, State.arrived_tb, hm, habsent] <;> rfl
  case cancel =>
    refine ⟨_, IsRequest.tbStart.answered h rfl (.inr ho)
      (t := ((arrived s p).setTb (s.tb.stopCancelled (number2 r1 r0))).tellMode .start) (st := .ok)
      (items := []) ?_, ?_, ?_, ?_,
      steered tag _ _ (((arrived s p).setTb_touches _).step (State.tellMode_touches _ _ _))
        (((arrived s p).setTb_tellMode_tells (t := s.tb.stopCancelled (number2 r1 r0)) rfl rfl hrun .start).congr fun k =>
          (timebaseNews_arrived ..).symm)⟩
    · rw [hblock hheld]
      simp only [State.startOutcome, State.arrived_tb, Timebase.stopCancelled, hrun, hpending, hresume, Bool.not_false,
        Bool.and_true, if_true]
      rfl
    · exact (State.tellMode_same _ _ _).tb
    · exact (State.tellMode_same _ _ _).entries
    · exact (State.tellMode_same _ _ _).uses
  · refine IsRequest.tbStart.answered h rfl (.inr ho) ((hblock hheld).trans ?_)
    rcases hbusy with hm | ⟨hm, hno | hno⟩ <;> simp only [State.startOutcome, State.arrived_tb, hm]
    · rfl
    · exact if_neg (by simp [hno])
    · exact if_neg (by simp [hno])

/-! ## TB_STOP -/

section Stop

variable {s u : State}

/-- The evictions of a TB_STOP NOW (R42, R44). -/
theorem State.tellStop_evictions (hentries : u.entries = s.entries) (hnow : u.tb.now = s.tb.now) :
    Tells u (State.tellStop s u .evictions) fun h => removalNews s h (lapses s) (.evicted · .frameLength) :=
  (u.evict_tells s.discardEvicts .frameLength).congr fun h =>
    removalNews_congr hentries hnow (fun e _ => s.discardEvicts_eq_lapses e) h _

theorem State.tellStop_stopped (hsessions : u.sessions = s.sessions) (htb : u.tb = s.tb.stopped) :
    Tells u (State.tellStop s u .stopped) fun h => timebaseNews s h s.tb.now (.tbState .halted .stop) :=
  State.tellMode_news (by rw [htb]; rfl) hsessions (by rw [htb]; rfl) (by rw [htb]; rfl) .stop

end Stop

section Stop

variable (s : State)

/-- The halt of a TB_STOP NOW, before it is told, with the open choice taken. -/
def State.stopping (n : Nat) : State := (s.setTb s.tb.stopped).setChoices n

/-- The two things a TB_STOP NOW tells, taken in one order. -/
def State.stopTold (n : Nat) (order : List StopNews) : State := order.foldl (State.tellStop s) (s.stopping n)

/-- A TB_STOP NOW tells its two things one way round or the other, and then the discard (R42, R44). -/
theorem State.stopNow_eq : ∃ n order, (order = [.evictions, .stopped] ∨ order = [.stopped, .evictions]) ∧
    s.stopNow = if s.tb.hasPlans then (s.stopTold n order).tellMode .discard else s.stopTold n order := by
  cases hany : s.entries.any s.discardEvicts with
  | true =>
    obtain ⟨n, hn⟩ := (s.setTb s.tb.stopped).inOrder_state [StopNews.evictions, .stopped]
    refine ⟨n, ((s.setTb s.tb.stopped).inOrder [StopNews.evictions, .stopped]).1, List.perm_pair.mp (State.inOrder_perm _ _), ?_⟩
    rw [State.stopTold, State.stopping, ← hn, State.stopNow, hany]
    rfl
  | false =>
    have hkept : State.tellStop s (s.stopping s.choices) .evictions = s.stopping s.choices :=
      State.evict_none _ _ _ fun e he => Bool.eq_false_iff.mpr (List.any_eq_false.mp hany e he)
    refine ⟨s.choices, _, .inl rfl, ?_⟩
    rw [State.stopTold, List.foldl_cons, hkept, State.stopNow, hany]
    rfl

theorem State.stopTold_touches (n : Nat) (order : List StopNews) :
    OnlyTouches { entries := true, uses := true, notices := true } (s.stopping n) (s.stopTold n order) :=
  .foldl (fun t x _ => State.tellStop_touches s t x) _

variable (hn : (s.entries.map fun e => e.handle.slot).Nodup)

include hn

/-- Whichever way round, the evictions are those of the discard. -/
theorem State.stopTold_entries (n : Nat) {order : List StopNews} (ho : order = [.evictions, .stopped] ∨ order = [.stopped, .evictions]) :
    (s.stopTold n order).entries = s.entries.filter (fun e => !lapses s e) ∧ SlotsFollow s (s.stopTold n order) := by
  have hevict (u : State) (hu : u.entries = s.entries) (huses : u.uses = s.uses) :
      (State.tellStop s u .evictions).entries = s.entries.filter (fun e => !lapses s e) ∧
        SlotsFollow s (State.tellStop s u .evictions) := by
    refine ⟨?_, SlotsFollow.congr (u.evict_slotsFollow s.discardEvicts .frameLength (hu ▸ hn)) (by rw [hu]) huses.symm rfl rfl⟩
    exact (u.evict_entries s.discardEvicts .frameLength (hu ▸ hn)).trans
      (hu ▸ List.filter_congr fun e _ => by rw [s.discardEvicts_eq_lapses])
  have hstopped (u : State) := u.tellMode_same .stop none
  rcases ho with rfl | rfl
  · obtain ⟨hentries, hslots⟩ := hevict (s.stopping n) rfl rfl
    exact ⟨(hstopped _).entries.trans hentries, SlotsFollow.congr hslots rfl rfl (congrArg _ (hstopped _).entries) (hstopped _).uses⟩
  · exact hevict _ (hstopped (s.stopping n)).entries (hstopped (s.stopping n)).uses

end Stop

section Stop

variable (s : State) (n : Nat)

/-- What the halt tells by itself, one way round. -/
theorem State.stopTold_evictedFirst : Tells s (s.stopTold n [.evictions, .stopped]) fun h =>
    removalNews s h (lapses s) (.evicted · .frameLength) ++ timebaseNews s h s.tb.now (.tbState .halted .stop) := by
  have hevicted : Tells (s.stopping n) (State.tellStop s (s.stopping n) .evictions) _ :=
    State.tellStop_evictions (s := s) rfl rfl
  exact (hevicted.behind (s := s) rfl rfl).trans
    (State.tellStop_stopped (s := s) hevicted.sessions (State.tellStop_touches s (s.stopping n) .evictions |>.tb rfl))

/-- And the other way round. -/
theorem State.stopTold_stoppedFirst : Tells s (s.stopTold n [.stopped, .evictions]) fun h =>
    timebaseNews s h s.tb.now (.tbState .halted .stop) ++ removalNews s h (lapses s) (.evicted · .frameLength) := by
  have hstopped : Tells (s.stopping n) (State.tellStop s (s.stopping n) .stopped) _ := State.tellStop_stopped (s := s) rfl rfl
  have hsame := State.tellMode_same (s.stopping n) .stop none
  exact (hstopped.behind (s := s) rfl rfl).trans
    (State.tellStop_evictions (s := s) hsame.entries ((congrArg Timebase.now hsame.tb).trans rfl))

end Stop

theorem State.stopNow_tells {s : State} {news : HostId → List (Time × NoticeBody)} {n : Nat} {order : List StopNews}
    (htold : Tells s (s.stopTold n order) news) :
    Tells s (if s.tb.hasPlans then (s.stopTold n order).tellMode .discard else s.stopTold n order) fun h =>
      news h ++ if Planned s then timebaseNews s h s.tb.now (.tbState .halted .discard) else [] := by
  have hplanned : s.tb.hasPlans = true ↔ Planned s := by simp [Timebase.hasPlans]
  have htb : (s.stopTold n order).tb = s.tb.stopped := (s.stopTold_touches n order).tb rfl
  by_cases hplans : Planned s
  · rw [if_pos (hplanned.mpr hplans)]
    refine (htold.trans (State.tellMode_news (s := s) ?_ htold.sessions ?_ ?_ .discard)).congr fun h => by rw [if_pos hplans]
    all_goals rw [htb]; rfl
  · rw [if_neg (mt hplanned.mp hplans)]
    exact htold.congr fun h => by rw [if_neg hplans, List.append_nil]

/-- Settles O28: the refusals, the idle halt, the pending stop and the halt. -/
theorem tbStopHaltsTheTimebase : Obligations.TbStopHaltsTheTimebase := by
  intro s p tag option atWrap h ho hoption
  have hblock (hheld : s.tb.holder = some p) : tbStopBlock p [option] (arrived s p) = (arrived s p).stopOutcome atWrap := by
    simp only [tbStopBlock, hoption]
    exact if_pos hheld
  refine ⟨fun hother => ?_, fun hheld hroom => ⟨fun hhalted => ?_, fun hidle => ?idle, fun hrun hwrap => ?_, fun hrun hnow => ?now⟩⟩
  · refine IsRequest.tbStop.answered h rfl (.inr ho) ?_
    simp only [tbStopBlock, hoption]
    exact if_neg hother
  · refine IsRequest.tbStop.answered h rfl (.inr ho) ((hblock hheld).trans ?_)
    simp only [State.stopOutcome, State.arrived_tb, hhalted]
    rfl
  case idle =>
    have hsame := State.tellMode_same ((arrived s p).setTb { s.tb with mode := .halted }) .stop none
    refine ⟨_, IsRequest.tbStop.answered h rfl (.inr ho) (t := (arrived s p).stopIdle) (st := .ok) (items := []) ?_,
      hsame.tb, hsame.entries, hsame.uses,
      steered tag _ _ (((arrived s p).setTb_touches _).step (State.tellMode_touches _ _ _))
        (((arrived s p).setTb_tellMode_tells (t := { s.tb with mode := .halted }) rfl rfl rfl .stop).congr fun k =>
          (timebaseNews_arrived ..).symm)⟩
    rw [hblock hheld]
    rcases hidle with hm | hm <;> simp only [State.stopOutcome, State.arrived_tb, hm] <;> rfl
  · refine IsRequest.tbStop.answered h rfl (.inr ho) ((hblock hheld).trans ?_)
    simp only [State.stopOutcome, State.arrived_tb, hrun, hwrap]
    rfl
  case now =>
    obtain ⟨n, order, horder, heq⟩ := (arrived s p).stopNow_eq
    have hsame := State.tellMode_same ((arrived s p).stopTold n order) .discard none
    obtain ⟨hentries, hslots⟩ := (arrived s p).stopTold_entries hroom.1 n horder
    have hlast : (arrived s p).stopNow.entries = ((arrived s p).stopTold n order).entries ∧
        (arrived s p).stopNow.uses = ((arrived s p).stopTold n order).uses := by
      rw [heq]
      split
      · exact ⟨hsame.entries, hsame.uses⟩
      · exact ⟨rfl, rfl⟩
    refine ⟨_, IsRequest.tbStop.answered h rfl (.inr ho) (t := (arrived s p).stopNow) (st := .ok) (items := []) ?_,
      (arrived s p).stopNow_tb, hlast.1.trans hentries,
      SlotsFollow.congr hslots rfl rfl (congrArg _ hlast.1) hlast.2, ?_⟩
    · rw [hblock hheld]
      simp only [State.stopOutcome, State.arrived_tb, hrun, hnow]
      rfl
    have htouched : OnlyTouches .steering (arrived s p) (arrived s p).stopNow := (State.stopNow_touches _).mono rfl
    refine ⟨htouched.lines rfl, htouched.claims rfl, htouched.channels rfl, htouched.reflexes rfl,
      placeReply_elsewhere tag _ _ (htouched.sessions rfl) (htouched.ports rfl) htouched.pending, placeReply_answers .., ?_⟩
    rintro _ _ _ rfl rfl rfl
    rw [heq]
    rcases horder with rfl | rfl
    · refine .inl fun k => ?_
      have := answered_receives (s := s) tag .ok [] (State.stopNow_tells ((arrived s p).stopTold_evictedFirst n)) k
      simp only [timebaseNews_arrived] at this
      exact this
    · refine .inr fun k => ?_
      have := answered_receives (s := s) tag .ok [] (State.stopNow_tells ((arrived s p).stopTold_stoppedFirst n)) k
      simp only [timebaseNews_arrived] at this
      exact this

/-! ## TB_SET_FRAME -/

/-- The entries that `goes` names have been evicted for a reason, and nothing else has happened to the schedule. -/
structure Evicted (s t : State) (goes : Entry → Bool) (reason : EvictReason) : Prop where
  told : Tells s t fun h => removalNews s h goes (.evicted · reason)
  entries : t.entries = s.entries.filter fun e => !goes e
  slots : SlotsFollow s t

/-- An eviction under another timebase record. -/
theorem State.setTb_evicted (s : State) {t : Timebase} {goes left : Entry → Bool} {reason : EvictReason} (hnow : t.now = s.tb.now)
    (hgoes : ∀ e, left e = goes e) (hn : (s.entries.map fun e => e.handle.slot).Nodup) :
    Evicted s ((s.setTb t).evict left reason) goes reason where
  told := (((s.setTb t).evict_tells left reason).behind (s := s) rfl rfl).congr fun h =>
    removalNews_congr (s := s) (t := s.setTb t) rfl hnow (fun e _ => hgoes e) h _
  entries := ((s.setTb t).evict_entries left reason hn).trans (List.filter_congr fun e _ => by rw [hgoes])
  slots := SlotsFollow.congr ((s.setTb t).evict_slotsFollow left reason hn) rfl rfl rfl rfl

section SetFrame

variable (s : State) (n : Nat)

/-- The evictions of a length that takes effect at once (R21, R45). -/
def State.shortened : State := (s.setTb { s.tb with length := n }).evict (State.outOfRange (s.setTb { s.tb with length := n }) false n) .frameLength

theorem State.shortened_same : SameButEntries (s.setTb { s.tb with length := n }) (s.shortened n) := State.evict_same _ _ _

theorem State.outOfRange_all (e : Entry) : s.outOfRange false n e = decide (n ≤ e.due.phase) := by
  simp [State.outOfRange]

theorem State.outOfRange_later (e : Entry) : s.outOfRange true n e = (decide (0 < s.leadIn e) && decide (n ≤ e.due.phase)) := by
  simp [State.outOfRange, Bool.and_comm]

theorem State.shortened_evicted (hn : (s.entries.map fun e => e.handle.slot).Nodup) :
    Evicted s (s.shortened n) (fun e => decide (n ≤ e.due.phase)) .frameLength :=
  s.setTb_evicted (t := { s.tb with length := n }) rfl (fun e => State.outOfRange_all _ n e) hn

theorem State.stageLength_evicted (hn : (s.entries.map fun e => e.handle.slot).Nodup) :
    Evicted s (s.stageLength n) (fun e => decide (0 < s.leadIn e) && decide (n ≤ e.due.phase)) .frameLength :=
  s.setTb_evicted (t := { s.tb with staged := some n }) rfl
    (fun e => State.outOfRange_later (s.setTb { s.tb with staged := some n }) n e) hn

theorem State.applyLength_tells (hn : (s.entries.map fun e => e.handle.slot).Nodup) : Tells s (s.applyLength n) fun h =>
    removalNews s h (fun e => decide (n ≤ e.due.phase)) (.evicted · .frameLength) ++ timebaseNews s h s.tb.now (.tbFrame n) := by
  have hholder : (s.shortened n).tb.holder = s.tb.holder := by rw [(s.shortened_same n).tb, State.setTb_tb]
  have htold := (s.shortened_evicted n hn).told
  exact htold.trans (State.tellTimebase_news hholder htold.sessions s.now (.tbFrame n))

end SetFrame

/-- Settles O29: the refusals, a length at once and a staged one. -/
theorem tbSetFrameAppliesOrStagesTheLength : Obligations.TbSetFrameAppliesOrStagesTheLength := by
  rintro s p tag b2 b1 b0 n h ho rfl ⟨hn, -, -⟩
  have hlong {n : Nat} (hlow : 64 ≤ n) : ¬ n < Config.minLength := Nat.not_lt.mpr hlow
  have hset (hlow : 64 ≤ lengthOf b2 b1 b0) (hheld : s.tb.holder = some p) :
      tbSetFrameBlock p [b2, b1, b0] (arrived s p) = (arrived s p).setLength (lengthOf b2 b1 b0) :=
    (if_neg (hlong hlow)).trans (if_pos hheld)
  refine ⟨fun hshort => ?_, fun hlow hother => ?_, fun hlow hheld hstill hbelow => ?_, fun hlow hheld hstill hfits => ?atOnce,
    fun hlow hheld hrun => ?staged⟩
  · refine IsRequest.tbSetFrame.answered h rfl (.inr ho) ?_
    exact if_pos hshort
  · refine IsRequest.tbSetFrame.answered h rfl (.inr ho) ?_
    exact (if_neg (hlong hlow)).trans (if_neg hother)
  · refine IsRequest.tbSetFrame.answered h rfl (.inr ho) ((hset hlow hheld).trans ?_)
    exact (if_neg hstill).trans (if_pos hbelow)
  case atOnce =>
    have hevicted := (arrived s p).shortened_evicted (lengthOf b2 b1 b0) hn
    have hsame := State.tellTimebase_same ((arrived s p).shortened (lengthOf b2 b1 b0)) s.tb.now (.tbFrame (lengthOf b2 b1 b0)) none
    refine ⟨_, IsRequest.tbSetFrame.answered h rfl (.inr ho) (t := (arrived s p).applyLength (lengthOf b2 b1 b0)) (st := .ok)
      (items := []) ((hset hlow hheld).trans ((if_neg hstill).trans (if_neg (Nat.not_le.mpr hfits)))),
      hsame.tb.trans ((arrived s p).shortened_same _).tb,
      hsame.entries.trans (hevicted.entries.trans (List.filter_congr fun e _ => ?_)),
      SlotsFollow.congr hevicted.slots rfl rfl (congrArg (List.map _) hsame.entries) hsame.uses,
      steered tag _ _ ?_ (((arrived s p).applyLength_tells _ hn).congr fun k => by rw [timebaseNews_arrived]; rfl)⟩
    · simp only [← decide_not, Nat.not_le]
    · exact (((arrived s p).setTb_touches _).step (State.evict_touches _ _ _) (k := .steering)).step
        (State.tellTimebase_touches _ _ _ _)
  case staged =>
    have hevicted := (arrived s p).stageLength_evicted (lengthOf b2 b1 b0) hn
    refine ⟨_, IsRequest.tbSetFrame.answered h rfl (.inr ho) (t := (arrived s p).stageLength (lengthOf b2 b1 b0)) (st := .staged)
      (items := [flagByte s.tb.staged.isSome]) ((hset hlow hheld).trans (if_pos hrun)), (State.evict_same _ _ _).tb,
      hevicted.entries.trans (List.filter_congr fun e _ => ?_), SlotsFollow.congr hevicted.slots rfl rfl rfl rfl,
      steered tag _ _ (((arrived s p).setTb_touches _).step (State.evict_touches _ _ _)) hevicted.told⟩
    have hlead : (arrived s p).leadIn e = s.leadIn e := rfl
    simp only [Bool.not_and, ← decide_not, ← Bool.decide_or, Nat.not_lt, Nat.not_le, Nat.le_zero, hlead]

end Sys2Proof.Machine

end

section
/-! The reference monitor's declarations: what an alert does to every open host, and the loss and the return of the reference. -/

set_option Elab.async false

namespace Sys2Proof.Machine

open Sys2Proof.Safety

/-! ## The alert of every open host -/

/-- The record with TB_ALERT set (R143). -/
def NoticeRec.alerted (r : NoticeRec) : NoticeRec := { r with conditions := { r.conditions with tbAlert := true } }

/-- The record with its attention output settled (R146). -/
def NoticeRec.settled (r : NoticeRec) (isOpen : Bool) : NoticeRec := { r with attention := r.wantsAttention isOpen }

theorem NoticeRec.join_alerted (r : NoticeRec) (a : Bool) (n : Notice) :
    { r.alerted with attention := a }.join n = { (r.join n).alerted with attention := a } := by
  rw [NoticeRec.join_eq, NoticeRec.join_eq]
  rfl

theorem NoticeRec.place_alerted (r : NoticeRec) (a : Bool) (n : Notice) :
    { r.alerted with attention := a }.place n = { (r.place n).alerted with attention := a } := by
  have hheld : { r.alerted with attention := a }.held = r.held := rfl
  by_cases hroom : r.held.length < Config.queueCapacity
  · rw [NoticeRec.place_joins n (hheld ▸ hroom), NoticeRec.place_joins n hroom, r.join_alerted]
  · rw [NoticeRec.place, NoticeRec.place, hheld, if_neg hroom, if_neg hroom]
    cases n.urgent with
    | false => rfl
    | true =>
      obtain ⟨urgent, routine⟩ := r
      cases routine <;> rfl

/-- An arrival does not look at the conditions or the attention output. -/
theorem NoticeRec.arrive_alerted (r : NoticeRec) (a : Bool) (stamp : Time) (body : NoticeBody) :
    { r.alerted with attention := a }.arrive stamp body = { (r.arrive stamp body).alerted with attention := a } :=
  NoticeRec.place_alerted { r with nextNumber := r.nextNumber + 1 } a _

theorem NoticeRec.place_tbAlert (r : NoticeRec) (n : Notice) : (r.place n).conditions.tbAlert = r.conditions.tbAlert := by
  unfold NoticeRec.place
  split
  · rw [NoticeRec.join_eq]
  · split
    · split <;> rfl
    · rfl

theorem State.alertHost_noticeRec (s : State) (h k : HostId) :
    (s.alertHost h).noticeRec k =
      if k = h ∧ (s.session h).isOpen = true then (s.noticeRec k).alerted.settled true else s.noticeRec k := by
  unfold State.alertHost
  by_cases ho : (s.session h).isOpen = true
  · rw [if_pos ho, State.noticeRec, State.putNotices_notices, Quad.get_set, ho]
    by_cases hk : k = h
    · rw [if_pos hk, if_pos ⟨hk, rfl⟩, hk]
      rfl
    · rw [if_neg hk, if_neg fun hb => hk hb.1]
  · rw [if_neg ho, if_neg fun hb => ho hb.2]

theorem State.alertHosts_noticeRec (hs : List HostId) (hnodup : hs.Nodup) (s : State) (k : HostId) :
    (hs.foldl State.alertHost s).noticeRec k =
      if k ∈ hs ∧ (s.session k).isOpen = true then (s.noticeRec k).alerted.settled true else s.noticeRec k := by
  induction hs generalizing s with
  | nil => simp
  | cons h hs ih =>
    obtain ⟨hout, hnodup⟩ := List.nodup_cons.mp hnodup
    have hsession : ((s.alertHost h).session k).isOpen = (s.session k).isOpen := by
      rw [State.session, (s.alertHost_same h).sessions]
    rw [List.foldl_cons, ih hnodup, hsession, s.alertHost_noticeRec]
    by_cases hk : k = h
    · subst hk
      simp [hout]
    · simp [hk]

/-- Every open host is alerted (R143). -/
theorem State.alertAll_noticeRec (s : State) (k : HostId) :
    s.alertAll.noticeRec k = if (s.session k).isOpen = true then (s.noticeRec k).alerted.settled true else s.noticeRec k := by
  have hall : k ∈ allHosts := by cases k <;> decide
  exact (State.alertHosts_noticeRec allHosts (by decide) s k).trans (if_congr (and_iff_right hall) rfl rfl)

/-- A notice and an alert of the same host commute. -/
theorem State.notifyAt_alertAll (s : State) (h : HostId) (stamp : Time) (body : NoticeBody) :
    (s.alertAll.notifyAt h stamp body).noticeRec h = (s.notifyAt h stamp body).alertAll.noticeRec h := by
  have hsession : (s.alertAll.session h).isOpen = (s.session h).isOpen := by rw [State.session, s.alertAll_same.sessions]
  rw [State.alertAll_noticeRec, State.session, (s.notifyAt_same h stamp body).sessions]
  cases ho : (s.session h).isOpen with
  | true =>
    rw [s.alertAll.noticeRec_notifyAt_open h stamp body (hsession.trans ho), s.noticeRec_notifyAt_open h stamp body ho,
      s.alertAll_noticeRec, if_pos ho, if_pos rfl, NoticeRec.settled, NoticeRec.arrive_alerted]
    rfl
  | false =>
    rw [s.alertAll.notifyAt_closed h stamp body (hsession.trans ho), s.notifyAt_closed h stamp body ho, s.alertAll_noticeRec, ho,
      if_neg Bool.false_ne_true]

theorem State.alertAll_noticeRec_congr {s t : State} {h : HostId} (hrec : s.noticeRec h = t.noticeRec h)
    (hopen : (s.session h).isOpen = (t.session h).isOpen) : s.alertAll.noticeRec h = t.alertAll.noticeRec h := by
  rw [s.alertAll_noticeRec, t.alertAll_noticeRec, hrec, hopen]

theorem State.foldl_notifyAt_alertAll (h : HostId) (news : List (Time × NoticeBody)) (s : State) :
    (news.foldl (fun u n => u.notifyAt h n.1 n.2) s.alertAll).noticeRec h =
      (news.foldl (fun u n => u.notifyAt h n.1 n.2) s).alertAll.noticeRec h := by
  induction news generalizing s with
  | nil => rfl
  | cons n news ih =>
    rw [List.foldl_cons, List.foldl_cons, ← ih (s.notifyAt h n.1 n.2)]
    refine foldl_notifyAt_noticeRec_congr news (s.notifyAt_alertAll h n.1 n.2) ?_
    simp only [State.session, (State.notifyAt_same _ h n.1 n.2).sessions, (State.alertAll_same _).sessions]

/-- What is told before an alert is told after it just as well. -/
theorem Tells.alertAll {s t : State} {news : HostId → List (Time × NoticeBody)} (h : Tells s t news) :
    Tells s.alertAll t.alertAll news where
  sessions := t.alertAll_same.sessions.trans (h.sessions.trans s.alertAll_same.sessions.symm)
  receives k := by
    have hsame : ((news k).foldl (fun u n => u.notifyAt k n.1 n.2) s).sessions = s.sessions :=
      foldl_keeps State.sessions _ (news k) (fun v n _ => (v.notifyAt_same k n.1 n.2).sessions) s
    exact (State.alertAll_noticeRec_congr (h.receives k) (by rw [State.session, State.session, h.sessions, hsame])).trans
      (State.foldl_notifyAt_alertAll k (news k) s).symm

/-- Notices leave an alert standing. -/
theorem Receives.tbAlert {s t : State} {h : HostId} {news : List (Time × NoticeBody)} (hr : Receives s t h news) :
    (t.noticeRec h).conditions.tbAlert = (s.noticeRec h).conditions.tbAlert := by
  have keeps (u : State) (n : Time × NoticeBody) :
      ((u.notifyAt h n.1 n.2).noticeRec h).conditions.tbAlert = (u.noticeRec h).conditions.tbAlert := by
    cases ho : (u.session h).isOpen with
    | true =>
      rw [u.noticeRec_notifyAt_open h n.1 n.2 ho]
      exact NoticeRec.place_tbAlert _ _
    | false => rw [u.notifyAt_closed h n.1 n.2 ho]
  rw [hr]
  exact foldl_keeps (fun u => (u.noticeRec h).conditions.tbAlert) _ news (fun u n _ => keeps u n) s

/-! ## The monitor -/

section Monitor

variable {m : RefMonitor}

theorem RefMonitor.counted_present (hv : m.verdict = .present) :
    m.counted = { m with withoutEdge := if m.edgeSeen then 0 else m.withoutEdge + 1, edgeSeen := false } := by
  unfold RefMonitor.counted
  split
  · rfl
  · next ha => cases hv.symm.trans ha

theorem RefMonitor.counted_absent (hv : m.verdict = .absent) :
    m.counted = { m with withEdge := if m.edgeSeen then m.withEdge + 1 else 0, edgeSeen := false } := by
  unfold RefMonitor.counted
  split
  · next hp => cases hv.symm.trans hp
  · rfl

theorem RefMonitor.declares_present (hv : m.verdict = .present) : m.declares = decide (Config.absentAfter ≤ m.withoutEdge) := by
  unfold RefMonitor.declares
  split
  · rfl
  · next ha => cases hv.symm.trans ha

theorem RefMonitor.declares_absent (hv : m.verdict = .absent) : m.declares = decide (Config.presentAfter ≤ m.withEdge) := by
  unfold RefMonitor.declares
  split
  · next hp => cases hv.symm.trans hp
  · rfl

end Monitor

/-! ## The declaration of ABSENT -/

section Declare

variable (s : State)

theorem State.line_claimedLines (f : OutputRec → OutputRec) (l : LineId) :
    (s.claimedLines f).line l = if (s.claim l).state = .free then s.line l else f (s.line l) :=
  s.line_mapLines _ l

theorem State.pin_held {s : State} {l : LineId} (hclaimed : (s.claim l).state ≠ .free) (hheld : (s.line l).output = .held) :
    s.pin l = some (s.line l).heldLevel := by
  unfold State.pin
  split
  · next hfree => exact absurd hfree hclaimed
  · rw [hheld]

/-- The record of a monitor whose counts have just been taken, and whose timebase has lost its reference (R54, R55). -/
def State.refGone : State := s.countMonitor.discardEvict.setTb s.countMonitor.tb.refGone

/-- What the loss tells: the change, and the discard of any plans behind it (R55, R59). -/
def State.refLossTold : State :=
  if s.tb.hasPlans then (s.refGone.alertAll.tellMode .refLost).tellMode .discard else s.refGone.alertAll.tellMode .refLost

theorem State.declareAbsent_eq : s.countMonitor.declareAbsent = s.refLossTold.applySafeLevels := by
  have htb : s.countMonitor.discardEvict.tb = s.countMonitor.tb := State.discardEvict_tb _
  simp only [State.declareAbsent, State.refLossTold, State.refGone, htb]
  rfl

theorem State.refGone_touches : OnlyTouches { tb := true, entries := true, uses := true, notices := true } s s.refGone :=
  (s.countMonitor_touches.step (State.evict_touches _ _ _)
    (k := { tb := true, entries := true, uses := true, notices := true })).step (State.setTb_touches _ _)

theorem State.refLossTold_touches : OnlyTouches { notices := true } s.refGone s.refLossTold := by
  have htold := (State.alertAll_touches s.refGone).trans (State.tellMode_touches _ .refLost none)
  unfold State.refLossTold
  split
  · exact htold.trans (State.tellMode_touches _ _ _)
  · exact htold

theorem State.refGone_evicted (hn : (s.entries.map fun e => e.handle.slot).Nodup) :
    Evicted s s.countMonitor.discardEvict (lapses s) .frameLength :=
  s.setTb_evicted (t := { s.tb with monitor := s.tb.monitor.counted }) rfl
    (fun e => State.discardEvicts_eq_lapses s.countMonitor e) hn

theorem State.refGone_tells : Tells s s.refGone fun h => removalNews s h (lapses s) (.evicted · .frameLength) :=
  (State.discardEvict_tells (s := s) (u := s.countMonitor) rfl rfl rfl rfl fun _ => rfl).before rfl rfl

theorem State.refLossTold_tells : Tells s.alertAll s.refLossTold fun h =>
    removalNews s h (lapses s) (.evicted · .frameLength) ++ timebaseNews s h s.tb.now (.tbState .refLost .refLost) ++
      if Planned s then timebaseNews s h s.tb.now (.tbState .refLost .discard) else [] := by
  have hplanned : s.tb.hasPlans = true ↔ Planned s := by simp [Timebase.hasPlans]
  have htb : s.refGone.alertAll.tb = s.countMonitor.tb.refGone := s.refGone.alertAll_same.tb
  have hsessions : s.refGone.alertAll.sessions = s.sessions := s.refGone.alertAll_same.sessions.trans s.refGone_tells.sessions
  have hlost := s.refGone_tells.alertAll.trans
    (State.tellMode_news (s := s) (mode := .refLost) (by rw [htb]; rfl) hsessions (by rw [htb]; rfl) (by rw [htb]; rfl) .refLost)
  have hsame := s.refGone.alertAll.tellMode_same .refLost none
  unfold State.refLossTold
  by_cases hplans : Planned s
  · rw [if_pos (hplanned.mpr hplans)]
    refine (hlost.trans (State.tellMode_news (s := s) ?_ (hsame.sessions.trans hsessions) ?_ ?_ .discard)).congr fun h => by
      rw [if_pos hplans]
    all_goals rw [hsame.tb, htb]; rfl
  · rw [if_neg (mt hplanned.mp hplans)]
    exact hlost.congr fun h => by rw [if_neg hplans, List.append_nil]

variable {s}

/-- The period that declares ABSENT (R54). -/
theorem State.declaresFrom_present_iff :
    s.declaresFrom .present = true ↔
      s.resetN = true ∧ s.tb.monitor.verdict = .present ∧ s.tb.monitor.edgeSeen = false ∧ 3 ≤ s.tb.monitor.withoutEdge := by
  simp only [State.declaresFrom, Bool.and_eq_true, decide_eq_true_eq, and_assoc]
  refine and_congr_right fun _ => and_congr_right fun hv => ?_
  rw [RefMonitor.counted_present hv, RefMonitor.declares_present (by exact hv), decide_eq_true_eq]
  cases s.tb.monitor.edgeSeen <;> simp [Config.absentAfter]

/-- The period that declares PRESENT (R54). -/
theorem State.declaresFrom_absent_iff :
    s.declaresFrom .absent = true ↔
      s.resetN = true ∧ s.tb.monitor.verdict = .absent ∧ s.tb.monitor.edgeSeen = true ∧ 1 ≤ s.tb.monitor.withEdge := by
  simp only [State.declaresFrom, Bool.and_eq_true, decide_eq_true_eq, and_assoc]
  refine and_congr_right fun _ => and_congr_right fun hv => ?_
  rw [RefMonitor.counted_absent hv, RefMonitor.declares_absent (by exact hv), decide_eq_true_eq]
  cases s.tb.monitor.edgeSeen <;> simp [Config.presentAfter]

end Declare

/-- Settles O36: the two declarations, and the periods that bring neither. -/
theorem monitorDeclaresAbsentOrPresent : Obligations.MonitorDeclaresAbsentOrPresent := by
  rintro s ⟨hn, -, -⟩
  refine ⟨fun hno => ?_, fun hreset hverdict hedge hcount => ?absent, fun hno => ?_, fun hreset hverdict hedge hcount => ?present⟩
  · refine congrArg Host.Outcome.next (if_neg fun hd => ?_)
    obtain ⟨hreset, hverdict, hedge, hcount⟩ := State.declaresFrom_present_iff.mp hd
    rw [hreset, hverdict, hedge] at hno
    simp only [reduceCtorEq, false_or] at hno
    omega
  case absent =>
    have htold := s.refLossTold_touches
    have hlast := s.refLossTold.claimedLines_touches OutputRec.madeSafe
    have hevicted := s.refGone_evicted hn
    have hentries := (hlast.entries rfl).trans (htold.entries rfl)
    have hkept := (s.refGone_touches.step htold (k := { tb := true, entries := true, uses := true, notices := true })).step hlast
      (k := { tb := true, entries := true, uses := true, notices := true, lines := true })
    have hlines (l : LineId) : s.refLossTold.applySafeLevels.line l =
        if (s.claim l).state = .free then s.line l else (s.line l).madeSafe := by
      refine (s.refLossTold.line_claimedLines OutputRec.madeSafe l).trans ?_
      simp only [State.claim, State.line, htold.claims rfl, htold.lines rfl, s.refGone_touches.claims rfl, s.refGone_touches.lines rfl]
    have hsafe {l : LineId} {v : Level} (hclaimed : (s.claim l).state ≠ .free) (hset : (s.line l).settings.safe = some v) :
        s.refLossTold.applySafeLevels.line l = { s.line l with output := .held, heldLevel := v } := by
      rw [hlines l, if_neg hclaimed, OutputRec.madeSafe, hset]
    refine ⟨s.refLossTold.applySafeLevels, ?_, ?_, hentries.trans hevicted.entries, fun h ho => ?_, fun h => ?_,
      fun l v hclaimed hset => ⟨hsafe hclaimed hset, ?_⟩, fun l hplain => (hlines l).trans ?_,
      SlotsFollow.congr hevicted.slots rfl rfl (congrArg (List.map _) hentries) ((hlast.uses rfl).trans (htold.uses rfl)),
      hkept.claims rfl, hkept.channels rfl, hkept.reflexes rfl, hkept.sessions rfl, hkept.ports rfl⟩
    · exact (congrArg Host.Outcome.next (if_pos (State.declaresFrom_present_iff.mpr ⟨hreset, hverdict, hedge, hcount⟩))).trans
        (congrArg Host.Outcome.next s.declareAbsent_eq)
    · refine ((hlast.tb rfl).trans (htold.tb rfl)).trans ?_
      simp only [State.refGone, State.countMonitor, State.setTb_tb, Timebase.refGone, RefMonitor.counted_present hverdict]
    · refine (Receives.tbAlert ((s.refLossTold_tells.before (u := s.refLossTold.applySafeLevels) rfl rfl).receives h)).trans ?_
      exact congrArg (fun r : NoticeRec => r.conditions.tbAlert) ((s.alertAll_noticeRec h).trans (if_pos ho))
    · exact (s.refLossTold_tells.before (u := s.refLossTold.applySafeLevels) rfl rfl).receives h
    · have hclaim : s.refLossTold.applySafeLevels.claim l = s.claim l := congrArg (fun q : Vector ClaimRec 12 => q[l]) (hkept.claims rfl)
      exact (State.pin_held (hclaim ▸ hclaimed) (by rw [hsafe hclaimed hset])).trans (by rw [hsafe hclaimed hset])
    · by_cases hfree : (s.claim l).state = .free
      · exact if_pos hfree
      · rw [if_neg hfree, OutputRec.madeSafe, hplain.resolve_left hfree]
  · refine congrArg Host.Outcome.next (if_neg fun hd => ?_)
    obtain ⟨hreset, hverdict, hedge, hcount⟩ := State.declaresFrom_absent_iff.mp hd
    rw [hreset, hverdict, hedge] at hno
    simp only [reduceCtorEq, false_or] at hno
    omega
  case present =>
    have hsame := State.tellMode_same (s.setTb (s.countMonitor.tb.refBack)) .refBack none
    refine ⟨(s.setTb (s.countMonitor.tb.refBack)).tellMode .refBack, ?_, hsame.tb.trans ?_,
      (s.setTb_tellMode_tells (t := s.countMonitor.tb.refBack) rfl rfl rfl .refBack).receives, hsame.entries, hsame.uses, hsame.lines,
      hsame.claims, hsame.channels, hsame.reflexes, hsame.sessions, hsame.ports⟩
    · exact congrArg Host.Outcome.next (if_pos (State.declaresFrom_absent_iff.mpr ⟨hreset, hverdict, hedge, hcount⟩))
    · simp only [State.countMonitor, State.setTb_tb, Timebase.refBack, RefMonitor.counted_absent hverdict]

end Sys2Proof.Machine

end

section
/-! The lines that pass on: what a hand-over, an admission and a withdrawal tell, what they leave, and RELEASE (chapter 4). -/

set_option Elab.async false

namespace Sys2Proof.Machine

open Sys2Proof.Safety

/-! ## Runs of places and sets of hosts -/

theorem Place.wantsShared_iff (w : Place) : w.wantsShared = true ↔ w.ask ≠ .exclusive := by
  unfold Place.wantsShared Ask.mode
  cases w.ask <;> simp

/-- The run of SHARED places ends at the first EXCLUSIVE one. -/
theorem shared_split {run behind : List Place} (hrun : ∀ x ∈ run, x.ask ≠ .exclusive)
    (hbehind : ∀ x ∈ behind.head?, x.ask = .exclusive) : sharedRun (run ++ behind) = run ∧ afterRun (run ++ behind) = behind := by
  have hstop : sharedRun behind = [] ∧ afterRun behind = behind := by
    cases behind with
    | nil => exact ⟨rfl, rfl⟩
    | cons x xs =>
      have hx : ¬ x.wantsShared = true := fun h => x.wantsShared_iff.mp h (hbehind x rfl)
      exact ⟨List.takeWhile_cons_of_neg hx, List.dropWhile_cons_of_neg hx⟩
  have hall : ∀ x ∈ run, x.wantsShared = true := fun x hx => x.wantsShared_iff.mpr (hrun x hx)
  unfold sharedRun afterRun at *
  exact ⟨by rw [List.takeWhile_append_of_pos hall, hstop.1, List.append_nil], by rw [List.dropWhile_append_of_pos hall, hstop.2]⟩

theorem addHosts_get (q : HostSet) (hs : List HostId) (k : HostId) : (addHosts q hs).get k = true ↔ q.get k = true ∨ k ∈ hs := by
  induction hs generalizing q with
  | nil => simp [addHosts]
  | cons h hs ih =>
    refine (ih (q.set h true)).trans ?_
    rw [Quad.get_set, List.mem_cons]
    by_cases hk : k = h <;> simp [hk]

theorem addHosts_places (q : HostSet) (run : List Place) (k : HostId) :
    (addHosts q (run.map Place.host)).get k = true ↔ q.get k = true ∨ ∃ x ∈ run, x.host = k := by
  rw [addHosts_get, List.mem_map]

/-! ## What a grant tells -/

/-- The places of a list that are of host `k`, each with a notice. -/
theorem State.tellGranted_tells (s : State) (l : LineId) (places : List Place) (mode : ClaimMode) (policy : Policy) :
    Tells s (s.tellGranted l places mode policy) fun k =>
      (places.filter fun x => decide (x.host = k)).map fun _ => (s.tb.now, .claimGranted l mode policy) :=
  (s.notifyEach_tells _ _ _).congr fun k => by rw [List.filter_map, List.map_map]; rfl

theorem handOverNews_congr {s t : State} (htb : t.tb = s.tb) (l : LineId) (waiting : List Place) (k : HostId) :
    handOverNews t l waiting k = handOverNews s l waiting k := by
  unfold handOverNews
  rw [htb]

theorem leavingNews_congr {s t : State} {l : LineId} (htb : t.tb = s.tb) (hclaim : t.claim l = s.claim l) (h k : HostId) :
    leavingNews t h l k = leavingNews s h l k := by
  unfold leavingNews
  simp only [hclaim, handOverNews_congr htb, admissionNews, htb]

/-- A line handed on tells the hosts granted (R93, R94). -/
theorem State.handOn_tells (s : State) (l : LineId) : Tells s (s.handOn l) (handOverNews s l (s.claim l).waiting) := by
  unfold State.handOn
  cases hwaiting : (s.claim l).waiting with
  | nil => exact Tells.congr (Tells.silent rfl rfl) fun _ => rfl
  | cons w rest =>
    dsimp only
    cases hask : w.ask with
    | exclusive =>
      refine Tells.congr (Tells.behind (State.tellGranted_tells _ l [w] .exclusive .refuse) rfl rfl) fun k => ?_
      by_cases hk : w.host = k
      · simp [handOverNews, hask, hk]
        rfl
      · simp [handOverNews, hask, hk]
    | shared policy =>
      refine Tells.congr (Tells.behind (State.tellGranted_tells _ l _ .shared policy) rfl rfl) fun k => ?_
      have hrun : sharedRun (w :: rest) = w :: headRun rest := List.takeWhile_cons_of_pos (w.wantsShared_iff.mpr (by simp [hask]))
      simp only [handOverNews, hask, hrun]
      rfl

/-- An admission tells the hosts of the run (R94, R95). -/
theorem State.admitRun_tells (s : State) (l : LineId) : Tells s (s.admitRun l) fun k =>
    if (s.claim l).state = .shared then admissionNews s l (s.claim l).waiting k else [] := by
  unfold State.admitRun
  dsimp only
  cases hstate : (s.claim l).state with
  | free | exclusive => exact .refl s
  | shared =>
    cases hrun : sharedRun (s.claim l).waiting with
    | nil =>
      refine (Tells.refl s).congr fun k => ?_
      rw [if_pos rfl, admissionNews, show headRun (s.claim l).waiting = [] from hrun]
      rfl
    | cons w ws =>
      refine Tells.congr (Tells.behind (State.tellGranted_tells _ l (w :: ws) .shared (s.claim l).policy) rfl rfl) fun k => ?_
      rw [if_pos rfl, admissionNews, show headRun (s.claim l).waiting = w :: ws from hrun]
      rfl

/-- A withdrawal tells the hosts of the run that it brings to the head (R95). -/
theorem State.withdrawPlace_tells (s : State) (h : HostId) (l : LineId) : Tells s (s.withdrawPlace h l) fun k =>
    if (s.claim l).state = .shared then admissionNews s l ((s.claim l).waiting.filter fun w => decide (w.host ≠ h)) k else [] := by
  refine Tells.congr (Tells.behind (State.admitRun_tells _ l) rfl rfl) fun k => ?_
  simp only [admissionNews, State.claim_setClaim_same]
  rfl

theorem State.withdrawPlace_notices (s : State) (h : HostId) (l : LineId) (hstate : (s.claim l).state ≠ .shared) :
    (s.withdrawPlace h l).notices = s.notices := by
  have hset : ((s.setClaim l { s.claim l with waiting := (s.claim l).waiting.filter fun w => decide (w.host ≠ h) }).claim l).state =
      (s.claim l).state := by rw [State.claim_setClaim_same]
  rw [State.withdrawPlace, State.admitRun]
  dsimp only
  split
  · next hshared _ => exact absurd (hset.symm.trans hshared) hstate
  · rfl

theorem noHosts_lacking (c : ClaimRec) (h : HostId) :
    noHosts (c.lacking h).holders = true ↔ ¬ ∃ j ∈ allHosts, j ≠ h ∧ c.holders.get j = true := by
  have hall (j : HostId) : j ∈ allHosts := by cases j <;> decide
  rw [noHosts_iff]
  simp only [ClaimRec.lacking, Quad.get_set, hall, true_and, not_exists, not_and, Bool.not_eq_true]
  refine forall_congr' fun j => ?_
  by_cases hj : j = h <;> simp [hj]

/-- A host that leaves tells the hosts to whom the line passes (R92 to R94). -/
theorem State.leaveHolders_tells (s : State) (h : HostId) (l : LineId) : Tells s (s.leaveHolders h l) fun k =>
    if noHosts ((s.claim l).lacking h).holders then handOverNews s l (s.claim l).waiting k else [] := by
  have hclaim : (s.setClaim l ((s.claim l).lacking h)).claim l = (s.claim l).lacking h := s.claim_setClaim_same l _
  change Tells s (if noHosts ((s.setClaim l ((s.claim l).lacking h)).claim l).holders then _ else _) _
  rw [hclaim]
  split
  · exact Tells.congr (Tells.behind (State.handOn_tells (s.setClaim l ((s.claim l).lacking h)) l) rfl rfl) fun k => by rw [hclaim]; rfl
  · exact .silent rfl rfl

/-- The claim table's part of a session end, on one line (R100). -/
theorem State.endClaim_tells (s : State) (h : HostId) (l : LineId) : Tells s (s.endClaim h l) fun k => leavingNews s h l k := by
  unfold State.endClaim
  by_cases hheld : (s.claim l).holders.get h = true
  · rw [if_pos hheld]
    refine (s.leaveHolders_tells h l).congr fun k => ?_
    rw [leavingNews, if_pos hheld, if_congr (noHosts_lacking _ h) rfl rfl, ite_not]
  · rw [if_neg hheld]
    by_cases hwaits : (s.claim l).awaitedBy h = true
    · rw [if_pos hwaits]
      refine (s.withdrawPlace_tells h l).congr fun k => ?_
      rw [leavingNews, if_neg hheld, if_congr (and_iff_left ((s.claim l).awaitedBy_iff h |>.mp hwaits)) rfl rfl]
    · rw [if_neg hwaits]
      refine (Tells.refl s).congr fun k => ?_
      rw [leavingNews, if_neg hheld, if_neg fun hb => hwaits ((s.claim l).awaitedBy_iff h |>.mpr hb.2)]

/-! ## What is left of the line -/

theorem ClaimRec.handed_lacking (c : ClaimRec) (h : HostId) : (c.lacking h).handed = c.handed := rfl

/-- A record that has lost a holder, as the statements say it. -/
theorem holdingLeft_of {s t : State} {h : HostId} {l : LineId} (hclaim : t.claim l = (s.claim l).left h)
    (hline : t.line l = (s.claim l).leftOutput h s.tb.mode (s.line l)) : HoldingLeft s t h l := by
  have hall (j : HostId) : j ∈ allHosts := by cases j <;> decide
  obtain ⟨hhanded, houtput⟩ := s.handOn_line l l
  rw [if_pos rfl] at hhanded houtput
  constructor
  · rintro ⟨k, hk, hin⟩
    have hnot : ¬ noHosts ((s.claim l).lacking h).holders = true :=
      fun hb => (noHosts_lacking _ h).mp hb ⟨k, hall k, hk, hin⟩
    exact ⟨hclaim.trans (if_neg hnot), hline.trans (if_neg hnot)⟩
  · intro hout
    have hnone : noHosts ((s.claim l).lacking h).holders = true :=
      (noHosts_lacking _ h).mpr fun ⟨j, _, hj, hin⟩ => absurd hin (ne_true_of_eq_false (hout j hj))
    exact ⟨hclaim.trans ((if_pos hnone).trans hhanded.symm), hline.trans ((if_pos hnone).trans houtput.symm)⟩

theorem ClaimRec.withdrawn_of_ne {c : ClaimRec} (h : HostId) (hstate : c.state ≠ .shared) :
    c.withdrawn h = { c with waiting := c.waiting.filter fun w => decide (w.host ≠ h) } := if_neg hstate

theorem ClaimRec.withdrawn_of_shared {c : ClaimRec} (h : HostId) (hstate : c.state = .shared) :
    c.withdrawn h =
      { c with
        holders := addHosts c.holders ((sharedRun (c.waiting.filter fun w => decide (w.host ≠ h))).map Place.host)
        waiting := afterRun (c.waiting.filter fun w => decide (w.host ≠ h)) } := if_pos hstate

theorem ClaimRec.withdrawn_policy (c : ClaimRec) (h : HostId) : (c.withdrawn h).policy = c.policy := by
  unfold ClaimRec.withdrawn ClaimRec.admitted
  split <;> rfl

theorem ClaimRec.mem_withdrawn {c : ClaimRec} {h : HostId} {w : Place} (hw : w ∈ (c.withdrawn h).waiting) :
    w ∈ c.waiting ∧ w.host ≠ h := by
  have hleft : w ∈ c.waiting.filter fun w => decide (w.host ≠ h) := by
    unfold ClaimRec.withdrawn ClaimRec.admitted at hw
    split at hw
    · exact (List.dropWhile_sublist _).subset hw
    · exact hw
  simpa using hleft

theorem placeWithdrawn_of {s t : State} {h : HostId} {l : LineId} (hclaim : t.claim l = (s.claim l).withdrawn h)
    (hline : t.line l = s.line l) : PlaceWithdrawn s t h l := by
  refine ⟨hline, fun hne => hclaim.trans (ClaimRec.withdrawn_of_ne h hne), fun run behind hshared hsplit hrun hbehind => ?_⟩
  obtain ⟨hfirst, hrest⟩ := shared_split hrun hbehind
  rw [ClaimRec.withdrawn_of_shared h hshared, hsplit, hfirst, hrest] at hclaim
  rw [hclaim]
  exact ⟨hshared, rfl, rfl, fun k => addHosts_places _ run k⟩

/-- Settles O46: the records of the line and what the hand-over tells. -/
theorem lineIsHandedToTheHeadOfItsWaitList : Obligations.LineIsHandedToTheHeadOfItsWaitList := by
  intro s l
  refine ⟨fun hnone => ?_, fun w rest hwaiting => ?_⟩
  · unfold State.handOn
    rw [hnone]
    rfl
  · have htouched := s.handOn_touches l
    obtain ⟨hclaim, hline⟩ := s.handOn_line l l
    rw [if_pos rfl] at hclaim hline
    refine ⟨hline.trans ?_, fun m hm => ?_, htouched.entries rfl, htouched.reflexes rfl, htouched.tb rfl, fun h => ?_, fun hask => ?_,
      fun policy run behind hask hsplit hrun hbehind => ?_⟩
    · rw [ClaimRec.handedOutput, hwaiting]
      exact OutputRec.grantedIn_eq _ _
    · obtain ⟨hothers, hlines⟩ := s.handOn_line l m
      exact ⟨hlines.trans (if_neg hm), hothers.trans (if_neg hm)⟩
    · exact hwaiting ▸ (s.handOn_tells l).receives h
    · rw [hclaim, ClaimRec.handed, hwaiting]
      simp only [hask]
    · have hall : ∀ x ∈ w :: run, x.ask ≠ .exclusive := by simpa [hask] using hrun
      obtain ⟨hfirst, hrest⟩ := shared_split hall hbehind
      have hhanded : (s.handOn l).claim l =
          { state := .shared, holders := addHosts (Quad.const false) ((w :: run).map Place.host), policy, waiting := behind } := by
        rw [hclaim, ClaimRec.handed, hwaiting]
        simp only [hask, hsplit, ← List.cons_append, hfirst, hrest]
      rw [hhanded]
      refine ⟨rfl, rfl, rfl, fun h => (addHosts_places _ _ h).trans ?_⟩
      simp

/-! ## Removals on one target -/

theorem removalNews_owned (s : State) (k p : HostId) (goes : Entry → Bool) (body : Handle → NoticeBody) :
    removalNews s k (fun e => decide (e.owner = p) && goes e) body = if k = p then removalNews s p goes body else [] := by
  by_cases hk : k = p
  · subst hk
    simp only [removalNews, if_true, ← Bool.and_assoc, Bool.and_self]
  · have hnone : s.entries.filter (fun e => decide (e.owner = k) && (decide (e.owner = p) && goes e)) = [] := by
      refine List.filter_eq_nil_iff.mpr fun e _ he => ?_
      simp only [Bool.and_eq_true, decide_eq_true_eq] at he
      exact hk (he.1.symm.trans he.2.1)
    rw [if_neg hk, removalNews, hnone]
    rfl

/-- The reflex of channel `c` is one of host `h` that goes. -/
def State.reflexGoes (s : State) (h : HostId) (goes : ChannelId → Reflex → Bool) (c : ChannelId) : Bool :=
  (s.reflex c).any fun r => decide (r.owner = h) && goes c r

theorem reflexNews_eq (s : State) (h : HostId) (goes : ChannelId → Reflex → Bool) (reason : RemovalReason) :
    reflexNews s h goes reason =
      (allChannels.filter (s.reflexGoes h goes)).map fun c => (s.tb.now, .reflexRemoved c reason) := by
  unfold reflexNews
  congr 1
  refine List.filter_congr fun c _ => ?_
  unfold State.reflexGoes
  cases s.reflex c <;> rfl

theorem State.removeReflex_tells (goes : ChannelId → Reflex → Bool) (why : RemovalReason) (s : State) (c : ChannelId) :
    Tells s (s.removeReflex goes (some why) c) fun h =>
      if s.reflexGoes h goes c then [(s.tb.now, .reflexRemoved c why)] else [] := by
  unfold State.removeReflex State.reflexGoes
  cases hr : s.reflex c with
  | none => exact .refl s
  | some r =>
    dsimp only [Option.any_some]
    by_cases hg : goes c r = true
    · rw [if_pos hg]
      refine Tells.congr (Tells.behind (State.notifyAt_tells _ r.owner _ _) rfl rfl) fun h => ?_
      simp only [hg, Bool.and_true, decide_eq_true_eq]
      rfl
    · rw [if_neg hg]
      exact (Tells.refl s).congr fun h => by simp [hg]

theorem State.removeReflex_each (goes : ChannelId → Reflex → Bool) (why : RemovalReason) (cs : List ChannelId) (hcs : cs.Nodup)
    (s : State) : Tells s (cs.foldl (State.removeReflex goes (some why)) s) fun h =>
      (cs.filter (s.reflexGoes h goes)).map fun c => (s.tb.now, .reflexRemoved c why) := by
  induction cs generalizing s with
  | nil => exact .refl s
  | cons c cs ih =>
    obtain ⟨hout, hcs⟩ := List.nodup_cons.mp hcs
    refine Tells.congr ((s.removeReflex_tells goes why c).trans (ih hcs _)) fun h => ?_
    have hrest : cs.filter ((s.removeReflex goes (some why) c).reflexGoes h goes) = cs.filter (s.reflexGoes h goes) := by
      refine List.filter_congr fun d hd => ?_
      rw [State.reflexGoes, State.reflexGoes, State.reflex, State.removeReflex_reflexes, if_neg (ne_of_mem_of_not_mem hd hout)]
    rw [hrest, (s.removeReflex_same goes (some why) c).tb]
    cases hg : s.reflexGoes h goes c <;> simp [hg]

/-- Reflexes that are removed are told to their owners (R129, R130). -/
theorem State.removeReflexes_tells (s : State) (goes : ChannelId → Reflex → Bool) (why : RemovalReason) :
    Tells s (s.removeReflexes goes (some why)) fun h => reflexNews s h goes why :=
  (State.removeReflex_each goes why allChannels (List.nodup_finRange 8) s).congr fun h => reflexNews_eq s h goes why

theorem reflexNews_owned (s : State) (k p : HostId) (goes : ChannelId → Reflex → Bool) (reason : RemovalReason) :
    reflexNews s k (fun c r => decide (r.owner = p) && goes c r) reason = if k = p then reflexNews s p goes reason else [] := by
  rw [reflexNews_eq, reflexNews_eq]
  by_cases hk : k = p
  · subst hk
    have hsame : s.reflexGoes k (fun c r => decide (r.owner = k) && goes c r) = s.reflexGoes k goes := by
      funext c
      simp only [State.reflexGoes, ← Bool.and_assoc, Bool.and_self]
    rw [hsame, if_pos rfl]
  · have hnone : allChannels.filter (s.reflexGoes k fun c r => decide (r.owner = p) && goes c r) = [] := by
      refine List.filter_eq_nil_iff.mpr fun c _ hc => ?_
      simp only [State.reflexGoes, Option.any_eq_true, Bool.and_eq_true, decide_eq_true_eq] at hc
      obtain ⟨r, -, hown, hother, -⟩ := hc
      exact hk (hown.symm.trans hother)
    rw [if_neg hk, hnone]
    rfl

theorem reflexNews_congr {s t : State} (htb : t.tb = s.tb) (hreflexes : t.reflexes = s.reflexes) (h : HostId)
    (goes : ChannelId → Reflex → Bool) (reason : RemovalReason) : reflexNews t h goes reason = reflexNews s h goes reason := by
  have hsame : t.reflexGoes h goes = s.reflexGoes h goes := by
    funext c
    simp only [State.reflexGoes, State.reflex, hreflexes]
  rw [reflexNews_eq, reflexNews_eq, htb, hsame]

theorem filter_not_eq_ite (o : Option Reflex) (goes : Reflex → Bool) (P : Reflex → Prop) [∀ r, Decidable (P r)]
    [Decidable (∃ r ∈ o, P r)] (hgoes : ∀ r, goes r = true ↔ P r) :
    (o.filter fun r => !goes r) = if ∃ r ∈ o, P r then none else o := by
  cases o with
  | none => simp
  | some r => by_cases hr : P r <;> simp [Option.filter, hr, hgoes, Bool.eq_false_iff]

/-! ## RELEASE -/

section Release

variable (s : State) (h : HostId) (l : LineId)

/-- A holding given up, with its entries and then its reflexes on the line (R92, R129). -/
def State.givenUp : State :=
  ((s.setClaim l ((s.claim l).lacking h)).withdrawEntries (actsFor h l) .released).removeReflexes (fun _ r => r.targets h l)
    (some .released)

theorem State.givenUp_touches : OnlyTouches { entries := true, uses := true, notices := true, reflexes := true }
    (s.setClaim l ((s.claim l).lacking h)) (s.givenUp h l) :=
  (State.removeEntries_touches _ _ _).step (State.removeReflexes_touches _ _ _)

theorem State.givenUp_claim (m : LineId) : (s.givenUp h l).claim m = if m = l then (s.claim l).lacking h else s.claim m := by
  rw [State.claim, (s.givenUp_touches h l).claims rfl]
  exact s.claim_setClaim l m _

theorem State.releaseHolding_eq : s.releaseHolding h l =
    if noHosts ((s.claim l).lacking h).holders then (s.givenUp h l).handOn l else s.givenUp h l := by
  have hclaim := s.givenUp_claim h l l
  rw [if_pos rfl] at hclaim
  rw [← hclaim]
  rfl

/-- The line passes on as it does at a session's end (R92, R93, R100). -/
theorem State.releaseHolding_line (m : LineId) :
    (s.releaseHolding h l).claim m = (if m = l then (s.claim l).left h else s.claim m) ∧
      (s.releaseHolding h l).line m = if m = l then (s.claim l).leftOutput h s.tb.mode (s.line l) else s.line m := by
  have hlines : (s.givenUp h l).lines = s.lines := (s.givenUp_touches h l).lines rfl
  have htb : (s.givenUp h l).tb = s.tb := (s.givenUp_touches h l).tb rfl
  have hline (m : LineId) : (s.givenUp h l).line m = s.line m := congrArg (fun q : Vector OutputRec 12 => q[m]) hlines
  have hclaim := s.givenUp_claim h l
  obtain ⟨hhanded, houtput⟩ := (s.givenUp h l).handOn_line l m
  rw [hclaim l, if_pos rfl] at hhanded houtput
  rw [State.releaseHolding_eq, ClaimRec.left, ClaimRec.leftOutput]
  split
  · rw [hhanded, houtput, htb, hclaim m, hline m]
    refine ⟨?_, rfl⟩
    by_cases hm : m = l
    · rw [if_pos hm, if_pos hm, ClaimRec.handed_lacking]
    · rw [if_neg hm, if_neg hm, if_neg hm]
  · rw [hclaim m, hline m]
    refine ⟨rfl, ?_⟩
    split
    · next hm => rw [hm]
    · rfl

theorem State.givenUp_tells : Tells s (s.givenUp h l) fun k =>
    if k = h then
      removalNews s h (fun e => decide (e.deed.line = some l)) (.cancelled · .released) ++
        reflexNews s h (fun _ r => decide (r.deed.deed.line = some l)) .released
    else [] := by
  have hentries := State.removeEntries_tells (s.setClaim l ((s.claim l).lacking h)) (actsFor h l) (.cancelled · .released)
  have hsame := State.removeEntries_same (s.setClaim l ((s.claim l).lacking h)) (actsFor h l) (fun x => some (.cancelled x .released))
  have hreflexes := State.removeReflexes_tells
    ((s.setClaim l ((s.claim l).lacking h)).withdrawEntries (actsFor h l) .released) (fun _ r => r.targets h l) .released
  refine Tells.congr ((hentries.behind (s := s) rfl rfl).trans hreflexes) fun k => ?_
  have hfirst : removalNews (s.setClaim l ((s.claim l).lacking h)) k (actsFor h l) (.cancelled · .released) =
      if k = h then removalNews s h (fun e => decide (e.deed.line = some l)) (.cancelled · .released) else [] :=
    removalNews_owned s k h (fun e => decide (e.deed.line = some l)) (.cancelled · .released)
  have hsecond : reflexNews ((s.setClaim l ((s.claim l).lacking h)).withdrawEntries (actsFor h l) .released) k
      (fun _ r => r.targets h l) .released =
        if k = h then reflexNews s h (fun _ r => decide (r.deed.deed.line = some l)) .released else [] := by
    refine Eq.trans ?_ (reflexNews_owned s k h _ _)
    exact reflexNews_congr hsame.tb hsame.reflexes k _ _
  rw [hfirst, hsecond]
  split <;> rfl

theorem State.releaseHolding_after : OnlyTouches { lines := true, claims := true, notices := true } (s.givenUp h l) (s.releaseHolding h l) := by
  rw [State.releaseHolding_eq]
  split
  · exact (State.handOn_touches _ l).mono rfl
  · exact .refl _ _

theorem State.releaseHolding_tells (hheld : (s.claim l).holders.get h = true) : Tells s (s.releaseHolding h l) fun k =>
    (if k = h then
      removalNews s h (fun e => decide (e.deed.line = some l)) (.cancelled · .released) ++
        reflexNews s h (fun _ r => decide (r.deed.deed.line = some l)) .released
    else []) ++ leavingNews s h l k := by
  have htb : (s.givenUp h l).tb = s.tb := (s.givenUp_touches h l).tb rfl
  have hclaim : (s.givenUp h l).claim l = (s.claim l).lacking h := (s.givenUp_claim h l l).trans (if_pos rfl)
  rw [State.releaseHolding_eq]
  have hleft (k : HostId) : leavingNews s h l k =
      if noHosts ((s.claim l).lacking h).holders then handOverNews s l (s.claim l).waiting k else [] := by
    rw [leavingNews, if_pos hheld, if_congr (noHosts_lacking _ h) rfl rfl, ite_not]
  simp only [hleft]
  split
  · refine Tells.congr ((s.givenUp_tells h l).trans ((s.givenUp h l).handOn_tells l)) fun k => ?_
    rw [hclaim, handOverNews_congr htb]
    rfl
  · exact (s.givenUp_tells h l).congr fun k => List.append_nil _

theorem State.releaseHolding_schedule (hn : (s.entries.map fun e => e.handle.slot).Nodup) :
    (s.releaseHolding h l).entries = s.entries.filter (fun e => !actsFor h l e) ∧ SlotsFollow s (s.releaseHolding h l) ∧
      ∀ c : ChannelId, (s.releaseHolding h l).reflex c = (s.reflex c).filter fun r => !r.targets h l := by
  have hsecond := State.removeReflexes_same ((s.setClaim l ((s.claim l).lacking h)).withdrawEntries (actsFor h l) .released)
    (fun _ r => r.targets h l) (some .released)
  have hentries : (s.releaseHolding h l).entries = _ := ((s.releaseHolding_after h l).entries rfl).trans hsecond.entries
  have huses : (s.releaseHolding h l).uses = _ := ((s.releaseHolding_after h l).uses rfl).trans hsecond.uses
  refine ⟨hentries.trans (State.removeEntries_entries _ _ _ hn), ?_, fun c => ?_⟩
  · exact SlotsFollow.congr (State.removeEntries_slotsFollow (s.setClaim l ((s.claim l).lacking h)) (actsFor h l)
      (fun x => some (.cancelled x .released)) hn) rfl rfl (congrArg (List.map _) hentries) huses
  · rw [State.reflex, (s.releaseHolding_after h l).reflexes rfl]
    refine (State.removeReflexes_reflex _ _ _ c).trans ?_
    have hfirst := (State.removeEntries_same (s.setClaim l ((s.claim l).lacking h)) (actsFor h l)
      (fun x => some (.cancelled x .released))).reflexes
    exact congrArg (fun q : Vector (Option Reflex) 8 => q[c].filter fun r => !r.targets h l) hfirst

end Release

/-- Settles O45: a holding, a place, and neither. -/
theorem releaseGivesUpTheLine : Obligations.ReleaseGivesUpTheLine := by
  rintro s p tag line l h ho hl ⟨hn, -, -⟩
  have hblock : releaseBlock p [line] (arrived s p) =
      if (s.claim l).holders.get p then ((arrived s p).releaseHolding p l).accept [0]
      else if (s.claim l).awaitedBy p then ((arrived s p).withdrawPlace p l).accept [1]
      else (arrived s p).refuse .notOwner := by
    simp only [releaseBlock, lineOf_eq hl]
    rfl
  refine ⟨fun hheld => ?held, fun hout hwaits => ?waits, fun hout hnot => ?_⟩
  case held =>
    have htouched := (arrived s p).releaseHolding_touches p l
    obtain ⟨hentries, hslots, hreflexes⟩ := (arrived s p).releaseHolding_schedule p l hn
    obtain ⟨hclaim, hline⟩ := (arrived s p).releaseHolding_line p l l
    rw [if_pos rfl] at hclaim hline
    have hothers (m : LineId) := (arrived s p).releaseHolding_line p l m
    have htold := (arrived s p).releaseHolding_tells p l hheld
    have hexec := IsRequest.release.answered h rfl (.inr ho) (hblock.trans (if_pos hheld))
    generalize (arrived s p).releaseHolding p l = u at *
    have hleft : HoldingLeft s (u.placeReply p tag .ok [0]) p l := holdingLeft_of hclaim hline
    refine ⟨_, hexec, placeReply_answers .., hentries,
      fun c => (hreflexes c).trans (filter_not_eq_ite _ _ _ fun r => ?_), SlotsFollow.congr hslots rfl rfl rfl rfl,
      placeReply_elsewhere tag _ _ (htouched.sessions rfl) (htouched.ports rfl) htouched.pending, htouched.tb rfl,
      htouched.channels rfl, fun m hm => ?_, hleft.1, fun halone hnone => ?_, hleft,
      answered_receives tag _ _ (htold.congr fun k => ?_)⟩
    · simp [Reflex.targets]
    · exact ⟨(hothers m).1.trans (if_neg hm), (hothers m).2.trans (if_neg hm)⟩
    · obtain ⟨hfreed, hcleared⟩ := hleft.2 halone
      obtain ⟨hhanded, houtput⟩ := s.handOn_line l l
      rw [if_pos rfl] at hhanded houtput
      rw [hhanded, ClaimRec.handed, hnone] at hfreed
      rw [houtput, ClaimRec.handedOutput, hnone] at hcleared
      refine ⟨hfreed, hcleared, ?_⟩
      rw [State.pin, hfreed]
      rfl
    · rw [leavingNews_congr (t := arrived s p) rfl rfl, reflexNews_congr (t := arrived s p) rfl rfl]
      rfl
  case waits =>
    have htouched := (arrived s p).withdrawPlace_touches p l
    have hclaim := (arrived s p).withdrawPlace_claim p l
    have htold := (arrived s p).withdrawPlace_tells p l
    have hquiet := (arrived s p).withdrawPlace_notices p l
    have hexec := IsRequest.release.answered h rfl (.inr ho) (hblock.trans ((if_neg (ne_true_of_eq_false hout)).trans
      (if_pos ((s.claim l).awaitedBy_iff p |>.mpr hwaits))))
    generalize (arrived s p).withdrawPlace p l = u at *
    have hwithdrawn : (u.placeReply p tag .ok [1]).claim l = (s.claim l).withdrawn p := (hclaim l).trans (if_pos rfl)
    refine ⟨_, hexec, placeReply_answers .., htouched.lines rfl, htouched.entries rfl,
      htouched.uses rfl, htouched.channels rfl, htouched.reflexes rfl, htouched.tb rfl,
      placeReply_elsewhere tag _ _ (htouched.sessions rfl) (htouched.ports rfl) htouched.pending,
      fun m hm => (hclaim m).trans (if_neg hm), ?_, fun w hw => ?_,
      placeWithdrawn_of hwithdrawn (congrArg (fun q : Vector OutputRec 12 => q[l]) (htouched.lines rfl)), fun hother => ?_,
      answered_receives tag _ _ (htold.congr fun k => ?_)⟩
    · rw [hwithdrawn]
      exact ClaimRec.withdrawn_policy _ p
    · rw [hwithdrawn] at hw
      exact ClaimRec.mem_withdrawn hw
    · exact hquiet hother
    · rw [leavingNews, if_neg (ne_true_of_eq_false hout), if_congr (and_iff_left hwaits) rfl rfl]
      rfl
  · refine IsRequest.release.answered h rfl (.inr ho) (hblock.trans ((if_neg (ne_true_of_eq_false hout)).trans (if_neg ?_)))
    exact ne_true_of_eq_false ((s.claim l).awaitedBy_eq_false p |>.mpr hnot)

end Sys2Proof.Machine

end

section
/-! SUBSCRIBE and UNSUBSCRIBE (R107 to R109, R28, R130). -/

set_option Elab.async false

namespace Sys2Proof.Machine

open Sys2Proof.Safety

section Unsubscribe

variable (s : State) (h : HostId) (c : ChannelId)

/-- The subscriber's leaving and its REARM entries' (R28, R108). -/
def State.unsubscribing : State := (s.setChannel c ((s.channel c).without h)).withdrawEntries (rearmsFor h c) .unsubscribed

/-- The reflexes that go with it (R130). -/
def ownReflexOn (h : HostId) (c d : ChannelId) (r : Reflex) : Bool := decide (d = c) && decide (r.owner = h)

/-- A subscription given up, with its entries and then its reflex (R108, R130). -/
def State.unsubscribed : State := (s.unsubscribing h c).removeReflexes (ownReflexOn h c) (some .unsubscribed)

theorem State.unsubscribing_same : SameButEntries (s.setChannel c ((s.channel c).without h)) (s.unsubscribing h c) :=
  State.removeEntries_same (s.setChannel c ((s.channel c).without h)) (rearmsFor h c) (fun x => some (.cancelled x .unsubscribed))

theorem State.unsubscribed_same : SameButReflexes (s.unsubscribing h c) (s.unsubscribed h c) := State.removeReflexes_same _ _ _

theorem State.unsubscribed_channel (d : ChannelId) :
    (s.unsubscribed h c).channel d = if d = c then (s.channel c).without h else s.channel d := by
  rw [State.channel, (s.unsubscribed_same h c).channels, (s.unsubscribing_same h c).channels]
  exact s.channel_setChannel c d _

theorem State.unsubscribed_reflex (d : ChannelId) :
    (s.unsubscribed h c).reflex d = (s.reflex d).filter fun r => !ownReflexOn h c d r := by
  refine (State.removeReflexes_reflex _ _ _ d).trans ?_
  rw [(s.unsubscribing_same h c).reflexes]
  rfl

theorem State.unsubscribed_entries (hn : (s.entries.map fun e => e.handle.slot).Nodup) :
    (s.unsubscribed h c).entries = s.entries.filter (fun e => !rearmsFor h c e) ∧ SlotsFollow s (s.unsubscribed h c) := by
  have hsame := s.unsubscribed_same h c
  refine ⟨hsame.entries.trans (State.removeEntries_entries _ _ _ hn), ?_⟩
  exact SlotsFollow.congr (State.removeEntries_slotsFollow (s.setChannel c ((s.channel c).without h)) (rearmsFor h c)
    (fun x => some (.cancelled x .unsubscribed)) hn) rfl rfl (congrArg (List.map _) hsame.entries) hsame.uses

theorem State.unsubscribed_tells : Tells s (s.unsubscribed h c) fun k =>
    if k = h then
      removalNews s h (fun e => decide (e.deed.rearms = some c)) (.cancelled · .unsubscribed) ++
        reflexNews s h (fun d _ => decide (d = c)) .unsubscribed
    else [] := by
  have hentries := State.removeEntries_tells (s.setChannel c ((s.channel c).without h)) (rearmsFor h c) (.cancelled · .unsubscribed)
  have hreflexes := State.removeReflexes_tells (s.unsubscribing h c) (ownReflexOn h c) .unsubscribed
  refine Tells.congr ((hentries.behind (s := s) rfl rfl).trans hreflexes) fun k => ?_
  have hfirst : removalNews (s.setChannel c ((s.channel c).without h)) k (rearmsFor h c) (.cancelled · .unsubscribed) =
      if k = h then removalNews s h (fun e => decide (e.deed.rearms = some c)) (.cancelled · .unsubscribed) else [] :=
    removalNews_owned s k h (fun e => decide (e.deed.rearms = some c)) (.cancelled · .unsubscribed)
  have hgoes : ownReflexOn h c = fun d r => decide (r.owner = h) && decide (d = c) := by
    funext d r
    exact Bool.and_comm _ _
  have hsecond : reflexNews (s.unsubscribing h c) k (ownReflexOn h c) .unsubscribed =
      if k = h then reflexNews s h (fun d _ => decide (d = c)) .unsubscribed else [] := by
    rw [hgoes, reflexNews_congr (s.unsubscribing_same h c).tb (s.unsubscribing_same h c).reflexes]
    exact reflexNews_owned s k h (fun d _ => decide (d = c)) .unsubscribed
  rw [hfirst, hsecond]
  split <;> rfl

end Unsubscribe

theorem ChannelRec.without_subscribers (r : ChannelRec) (h : HostId) : (r.without h).subscribers = r.subscribers.set h false := by
  unfold ChannelRec.without
  dsimp only
  split <;> rfl

theorem noHosts_without (q : HostSet) (h : HostId) : noHosts (q.set h false) = true ↔ ∀ k, k ≠ h → q.get k = false := by
  rw [noHosts_iff]
  refine forall_congr' fun k => ?_
  rw [Quad.get_set]
  by_cases hk : k = h <;> simp [hk]

theorem ChannelRec.without_shared {r : ChannelRec} {h : HostId} (hk : ∃ k, k ≠ h ∧ r.subscribers.get k = true) :
    r.without h = { r with subscribers := r.subscribers.set h false } := by
  obtain ⟨k, hne, hin⟩ := hk
  exact if_neg fun hb => absurd hin (ne_true_of_eq_false ((noHosts_without _ h).mp hb k hne))

theorem ChannelRec.without_alone {r : ChannelRec} {h : HostId} (hk : ∀ k, k ≠ h → r.subscribers.get k = false) :
    r.without h =
      { r with subscribers := r.subscribers.set h false, state := .idle, counter := 0, sequence := 0, last := none } :=
  if_pos ((noHosts_without _ h).mpr hk)

/-- Settles O51: both requests, refused and carried out. -/
theorem subscribersJoinAndLeave : Obligations.SubscribersJoinAndLeave := by
  rintro s p tag channel c ho hc ⟨hn, -, -⟩
  refine ⟨fun h => ⟨fun hin => ?_, fun hout => ?join⟩, fun h => ⟨fun hout => ?_, fun hin => ?leave⟩⟩
  · refine IsRequest.subscribe.answered h rfl (.inr ho) ?_
    simp only [subscribeBlock, channelOf_eq hc]
    exact if_pos hin
  case join =>
    refine ⟨(s.channel c).joined p, IsRequest.subscribe.answered h rfl (.inr ho) ?_, ?_⟩
    · simp only [subscribeBlock, channelOf_eq hc]
      exact if_neg (ne_true_of_eq_false hout)
    · unfold ChannelRec.joined
      cases (s.channel c).state <;> simp
  · refine IsRequest.unsubscribe.answered h rfl (.inr ho) ?_
    simp only [unsubscribeBlock, channelOf_eq hc]
    exact if_pos (congrArg not hout)
  case leave =>
    have hblock : unsubscribeBlock p [channel] (arrived s p) =
        ⟨(arrived s p).unsubscribed p c, .ok, [byte (hostCount ((s.channel c).subscribers.set p false))]⟩ := by
      simp only [unsubscribeBlock, channelOf_eq hc]
      rw [← ChannelRec.without_subscribers]
      exact if_neg fun hb => absurd (hb.symm.trans (congrArg not hin)) (by decide)
    have hfirst := (arrived s p).unsubscribing_same p c
    have hsecond := (arrived s p).unsubscribed_same p c
    obtain ⟨hentries, hslots⟩ := (arrived s p).unsubscribed_entries p c hn
    have hchannel := (arrived s p).unsubscribed_channel p c
    have hreflex := (arrived s p).unsubscribed_reflex p c
    have htold := answered_receives tag .ok [byte (hostCount ((s.channel c).subscribers.set p false))]
      ((arrived s p).unsubscribed_tells p c)
    have hexec := IsRequest.unsubscribe.answered h rfl (.inr ho) hblock
    generalize (arrived s p).unsubscribed p c = u at *
    refine ⟨_, hexec, placeReply_answers .., hentries, SlotsFollow.congr hslots rfl rfl rfl rfl,
      placeReply_elsewhere tag _ _ (hsecond.sessions.trans hfirst.sessions) (hsecond.ports.trans hfirst.ports)
        (hsecond.pending.trans hfirst.pending), fun k hk => ?_, ?_, (hreflex c).trans (filter_not_eq_ite _ _ _ fun r => ?_),
      fun d hd => ⟨(hchannel d).trans (if_neg hd), (hreflex d).trans ?_⟩, hsecond.tb.trans hfirst.tb, hsecond.lines.trans hfirst.lines,
      hsecond.claims.trans hfirst.claims, fun hk => ((hchannel c).trans (if_pos rfl)).trans (ChannelRec.without_shared hk),
      fun hk => ((hchannel c).trans (if_pos rfl)).trans (ChannelRec.without_alone hk)⟩
    · have := htold k
      rw [if_neg hk] at this
      exact this
    · have := htold p
      rw [if_pos rfl, reflexNews_congr (t := arrived s p) rfl rfl] at this
      exact this
    · simp [ownReflexOn]
    · have hkept : (fun r => !ownReflexOn p c d r) = fun _ => true := by
        funext r
        simp [ownReflexOn, hd]
      rw [hkept]
      change (s.reflex d).filter _ = s.reflex d
      cases s.reflex d <;> rfl

end Sys2Proof.Machine

end

section
/-! The end of a session, in whichever order its answers come (R160, log entry 2), and the three rows that end one. -/

set_option Elab.async false

namespace Sys2Proof.Machine

open Sys2Proof.Safety

/-! ## What the answers tell -/

/-- What an answer to the end of host `h`'s session tells host `k`, by the records before any answer. -/
def answerNews (s : State) (h : HostId) (x : EndAnswer) (k : HostId) : List (Time × NoticeBody) :=
  match x with
  | .timebase =>
    if s.endDiscards h then
      removalNews s k (lapses s) (.evicted · .frameLength) ++ timebaseNews s k s.tb.now (.tbState .running .discard)
    else []
  | .line l => leavingNews s h l k

/-- Of the answers to a session end, those in `pending` are still to come: the records they read stand as in `s`. -/
structure Awaits (s : State) (pending : List EndAnswer) (t : State) : Prop where
  sessions : t.sessions = s.sessions
  now : t.tb.now = s.tb.now
  claims : ∀ l, .line l ∈ pending → t.claim l = s.claim l
  hold : .timebase ∈ pending → t.tb = s.tb ∧ t.entries = s.entries ∧ t.uses = s.uses
  slots : .timebase ∉ pending → SlotsFollow s t

theorem leavingNews_standing {s t : State} {l : LineId} (hnow : t.tb.now = s.tb.now) (hclaim : t.claim l = s.claim l) (h k : HostId) :
    leavingNews t h l k = leavingNews s h l k := by
  simp only [leavingNews, handOverNews, admissionNews, hclaim, hnow]

/-- A hold that ends without plans to discard. -/
theorem State.endHold_quiet {s : State} {h : HostId} (hd : s.endDiscards h = false) :
    s.endHold h = if s.tb.holder = some h then s.setTb { s.tb with holder := none } else s := by
  unfold State.endHold State.discardOnRelease
  split
  · next hholder => exact if_neg fun hb => ne_true_of_eq_false hd (State.endDiscards_iff.mpr ⟨hholder, hb⟩)
  · rfl

theorem Timebase.without_now (t : Timebase) (h : HostId) : (t.without h).now = t.now := by
  unfold Timebase.without
  split
  · split <;> rfl
  · rfl

section Answer

variable {s t : State} {h : HostId} {rest : List EndAnswer}

theorem Awaits.answerTimebase (ha : Awaits s (.timebase :: rest) t) (hfresh : .timebase ∉ rest)
    (hn : (s.entries.map fun e => e.handle.slot).Nodup) :
    Awaits s rest (t.endHold h) ∧ Tells t (t.endHold h) (answerNews s h .timebase) := by
  obtain ⟨htb, hentries, huses⟩ := ha.hold List.mem_cons_self
  have htouched := t.endHold_touches h
  have hclaim (l : LineId) (hl : .line l ∈ rest) : (t.endHold h).claim l = s.claim l := by
    rw [State.claim, htouched.claims rfl]
    exact ha.claims l (List.mem_cons_of_mem _ hl)
  have hnow : (t.endHold h).tb.now = s.tb.now := by rw [t.endHold_tb, Timebase.without_now, ha.now]
  have hdiscards : t.endDiscards h = s.endDiscards h := by rw [State.endDiscards, State.endDiscards, htb]
  have hsessions := (htouched.sessions rfl).trans ha.sessions
  cases hd : s.endDiscards h with
  | true =>
    have hslots := State.endHold_slotsFollow (hdiscards.trans hd) (hentries ▸ hn)
    refine ⟨⟨hsessions, hnow, hclaim, fun hb => absurd hb hfresh, fun _ => SlotsFollow.congr hslots (by rw [hentries]) huses.symm rfl rfl⟩, ?_⟩
    refine (State.endHold_tells (hdiscards.trans hd)).congr fun k => ?_
    have hwatches : t.watches k = s.watches k := by rw [State.watches, State.watches, State.session, State.session, ha.sessions]
    rw [answerNews, if_pos hd, timebaseNews, timebaseNews, htb, hwatches]
    rw [removalNews_congr hentries ha.now (fun e _ => lapses_congr htb e)]
  | false =>
    have hkept := State.endHold_quiet (hdiscards.trans hd)
    have hrest : (t.endHold h).entries = s.entries ∧ (t.endHold h).uses = s.uses ∧ (t.endHold h).notices = t.notices := by
      rw [hkept]
      split
      · exact ⟨hentries, huses, rfl⟩
      · exact ⟨hentries, huses, rfl⟩
    obtain ⟨hlist, hcounts, hnotices⟩ := hrest
    refine ⟨⟨hsessions, hnow, hclaim, fun hb => absurd hb hfresh, fun _ => SlotsFollow.same hlist hcounts⟩, ?_⟩
    exact (Tells.silent (htouched.sessions rfl) hnotices).congr fun k => if_neg (ne_true_of_eq_false hd)

theorem Awaits.answerLine {l : LineId} (ha : Awaits s (.line l :: rest) t) (hfresh : .line l ∉ rest) :
    Awaits s rest (t.endClaim h l) ∧ Tells t (t.endClaim h l) (answerNews s h (.line l)) := by
  have htouched := t.endClaim_touches h l
  have hsame : ∀ {x : EndAnswer}, x ≠ .line l → x ∉ rest → x ∉ .line l :: rest := fun hne hx hb =>
    (List.mem_cons.mp hb).elim hne hx
  refine ⟨⟨(htouched.sessions rfl).trans ha.sessions, (congrArg Timebase.now (htouched.tb rfl)).trans ha.now, fun m hm => ?_,
    fun hb => ?_, fun hb => ?_⟩, (t.endClaim_tells h l).congr fun k => ?_⟩
  · have hne : m ≠ l := by
      rintro rfl
      exact hfresh hm
    exact ((t.endClaim_line h l m).1.trans (if_neg hne)).trans (ha.claims m (List.mem_cons_of_mem _ hm))
  · obtain ⟨htb, hentries, huses⟩ := ha.hold (List.mem_cons_of_mem _ hb)
    exact ⟨(htouched.tb rfl).trans htb, (htouched.entries rfl).trans hentries, (htouched.uses rfl).trans huses⟩
  · exact SlotsFollow.congr (ha.slots (hsame nofun hb)) rfl rfl (congrArg (List.map _) (htouched.entries rfl)) (htouched.uses rfl)
  · exact (leavingNews_standing ha.now (ha.claims l List.mem_cons_self) h k).symm

theorem Awaits.answer {x : EndAnswer} (ha : Awaits s (x :: rest) t) (hfresh : x ∉ rest)
    (hn : (s.entries.map fun e => e.handle.slot).Nodup) :
    Awaits s rest (State.giveEndAnswer h t x) ∧ Tells t (State.giveEndAnswer h t x) (answerNews s h x) := by
  cases x with
  | timebase => exact ha.answerTimebase hfresh hn
  | line l => exact ha.answerLine hfresh

theorem Awaits.answers (xs : List EndAnswer) (hfresh : (xs ++ rest).Nodup) (hn : (s.entries.map fun e => e.handle.slot).Nodup)
    (ha : Awaits s (xs ++ rest) t) :
    Awaits s rest (xs.foldl (State.giveEndAnswer h) t) ∧
      Tells t (xs.foldl (State.giveEndAnswer h) t) fun k => xs.flatMap (answerNews s h · k) := by
  induction xs generalizing t with
  | nil => exact ⟨ha, .refl t⟩
  | cons x xs ih =>
    obtain ⟨hx, hxs⟩ := List.nodup_cons.mp hfresh
    obtain ⟨hnext, htold⟩ := ha.answer (h := h) hx hn
    obtain ⟨hlast, hmore⟩ := ih hxs hnext
    exact ⟨hlast, htold.trans hmore⟩

end Answer

/-! ## All answers -/

/-- The answers to a session end, all of them. -/
def allAnswers : List EndAnswer := .timebase :: allLines.map .line

theorem allAnswers_nodup : allAnswers.Nodup := by
  refine List.nodup_cons.mpr ⟨by simp, ?_⟩
  exact (List.nodup_finRange 12).map fun _ _ => EndAnswer.line.inj

/-- The answers that tell nobody anything. -/
def State.silentAnswers (s : State) (h : HostId) : List EndAnswer :=
  (if s.endDiscards h then [] else [.timebase]) ++ (allLines.filter fun l => !s.endMoves h l).map .line

theorem State.endSilently_eq (s : State) (h : HostId) : s.endSilently h = (s.silentAnswers h).foldl (State.giveEndAnswer h) s := by
  rw [State.silentAnswers, List.foldl_append, List.foldl_map]
  unfold State.endSilently
  split <;> rfl

theorem State.answers_perm (s : State) (h : HostId) : (s.silentAnswers h ++ s.endAnswers h).Perm allAnswers := by
  have hlines : ((allLines.filter fun l => s.endMoves h l) ++ allLines.filter fun l => !s.endMoves h l).Perm allLines :=
    List.filter_append_perm _ _
  have hmapped := hlines.map EndAnswer.line
  rw [List.map_append] at hmapped
  unfold State.silentAnswers State.endAnswers allAnswers
  split
  · exact List.perm_middle.trans ((List.perm_append_comm.trans hmapped).cons _)
  · exact (List.perm_append_comm.trans hmapped).cons _

/-- A session end gives every answer once, in some order (R160, log entry 2). -/
theorem State.endSession_told (s : State) (h : HostId) (cause : EndCause)
    (hn : ((s.endOwn h cause).entries.map fun e => e.handle.slot).Nodup) :
    SlotsFollow (s.endOwn h cause) (s.endSession h cause) ∧ ∃ given : List EndAnswer, given.Perm allAnswers ∧
      Tells (s.endOwn h cause) (s.endSession h cause) fun k => given.flatMap (answerNews (s.endOwn h cause) h · k) := by
  unfold State.endSession
  generalize s.endOwn h cause = o at *
  dsimp only
  obtain ⟨n, hchosen⟩ := (o.endSilently h).inOrder_state (o.endAnswers h)
  have horder := (o.endSilently h).inOrder_perm (o.endAnswers h)
  unfold State.takeAll
  generalize ((o.endSilently h).inOrder (o.endAnswers h)).1 = order at *
  rw [hchosen]
  have hperm : (o.silentAnswers h ++ order).Perm allAnswers := (horder.append_left _).trans (o.answers_perm h)
  have hnodup := hperm.nodup_iff.mpr allAnswers_nodup
  have hstart : Awaits o (o.silentAnswers h ++ order) o :=
    ⟨rfl, rfl, fun _ _ => rfl, fun _ => ⟨rfl, rfl, rfl⟩, fun _ => SlotsFollow.same rfl rfl⟩
  obtain ⟨hsilent, hfirst⟩ := Awaits.answers (h := h) _ hnodup hn hstart
  rw [← State.endSilently_eq] at hsilent hfirst
  have hwaiting : Awaits o (order ++ []) ((o.endSilently h).setChoices n) := by
    rw [List.append_nil]
    exact ⟨hsilent.sessions, hsilent.now, hsilent.claims, hsilent.hold, hsilent.slots⟩
  obtain ⟨hdone, hsecond⟩ := Awaits.answers (h := h) _ (by rw [List.append_nil]; exact hnodup.of_append_right) hn hwaiting
  refine ⟨hdone.slots (by simp), _, hperm, ?_⟩
  exact (hfirst.trans (hsecond.behind rfl rfl)).congr fun k => List.flatMap_append

/-! ## What is left -/

theorem SlotsFollow.trans {s t u : State} (hst : SlotsFollow s t) (htu : SlotsFollow t u)
    (ht : ∀ e ∈ t.entries, ∃ d ∈ s.entries, d.handle.slot = e.handle.slot)
    (hu : ∀ e ∈ u.entries, ∃ d ∈ t.entries, d.handle.slot = e.handle.slot) : SlotsFollow s u := by
  intro i
  rw [htu i, hst i]
  have hback : (∃ e ∈ t.entries, e.handle.slot = i) → ∃ e ∈ s.entries, e.handle.slot = i := by
    rintro ⟨e, he, hi⟩
    obtain ⟨d, hd, hslot⟩ := ht e he
    exact ⟨d, hd, hslot.trans hi⟩
  have hgone : (∀ e ∈ t.entries, e.handle.slot ≠ i) → ∀ e ∈ u.entries, e.handle.slot ≠ i := by
    intro hall e he hi
    obtain ⟨d, hd, hslot⟩ := hu e he
    exact hall d hd (hslot.trans hi)
  by_cases hin : ∃ e ∈ t.entries, e.handle.slot = i
  · have hstill : ¬ ∀ e ∈ t.entries, e.handle.slot ≠ i := by
      obtain ⟨e, he, hi⟩ := hin
      exact fun hall => hall e he hi
    simp only [hin, hback hin, hstill, true_and, and_false, if_false]
  · have hout : ∀ e ∈ t.entries, e.handle.slot ≠ i := fun e he hi => hin ⟨e, he, hi⟩
    have hafter : ∀ e ∈ u.entries, e.handle.slot ≠ i := hgone hout
    rw [if_neg fun hb => hin hb.1]
    exact if_congr (and_congr_right fun _ => ⟨fun _ => hafter, fun _ => hout⟩) rfl rfl

theorem ClaimRec.handed_without {c : ClaimRec} {h : HostId} (hne : ∀ w ∈ c.waiting, w.host ≠ h) :
    c.handed.holders.get h = false ∧ ∀ w ∈ c.handed.waiting, w.host ≠ h := by
  have hnone : (Quad.const false).get h = false := by cases h <;> rfl
  unfold ClaimRec.handed
  cases hwaiting : c.waiting with
  | nil => exact ⟨hnone, nofun⟩
  | cons w rest =>
    rw [hwaiting] at hne
    dsimp only
    cases hask : w.ask with
    | exclusive =>
      refine ⟨?_, fun x hx => hne x (List.mem_cons_of_mem _ hx)⟩
      exact (Quad.get_set_ne _ true (hne w List.mem_cons_self).symm).trans hnone
    | shared policy =>
      refine ⟨Bool.eq_false_iff.mpr fun hb => ?_, fun x hx => hne x ((List.dropWhile_sublist _).subset hx)⟩
      rcases (addHosts_places _ _ h).mp hb with hin | ⟨x, hx, hxh⟩
      · exact absurd hin (ne_true_of_eq_false hnone)
      · exact hne x ((List.takeWhile_sublist _).subset hx) hxh

theorem ClaimRec.withdrawn_without {c : ClaimRec} {h : HostId} (hheld : c.holders.get h = false) :
    (c.withdrawn h).holders.get h = false := by
  by_cases hstate : c.state = .shared
  · rw [ClaimRec.withdrawn_of_shared h hstate]
    refine Bool.eq_false_iff.mpr fun hb => ?_
    rcases (addHosts_places _ _ h).mp hb with hin | ⟨x, hx, hxh⟩
    · exact absurd hin (ne_true_of_eq_false hheld)
    · have hkept := (List.takeWhile_sublist _).subset hx
      simp only [List.mem_filter, decide_eq_true_eq] at hkept
      exact hkept.2 hxh
  · rw [ClaimRec.withdrawn_of_ne h hstate]
    exact hheld

/-- A host whose session has ended neither holds nor awaits the line (R100, R101). -/
theorem ClaimRec.endedBy_gone {c : ClaimRec} {h : HostId} (hw : ∀ w ∈ c.waiting, c.holders.get w.host = false) :
    (c.endedBy h).holders.get h = false ∧ ∀ w ∈ (c.endedBy h).waiting, w.host ≠ h := by
  unfold ClaimRec.endedBy
  cases hheld : c.holders.get h with
  | true =>
    have hne : ∀ w ∈ c.waiting, w.host ≠ h := fun w hin hb => by
      have := hw w hin
      rw [hb, hheld] at this
      cases this
    rw [if_pos rfl, ClaimRec.left]
    split
    · exact ClaimRec.handed_without hne
    · exact ⟨by rw [ClaimRec.lacking, Quad.get_set_same], hne⟩
  | false =>
    rw [if_neg Bool.false_ne_true]
    cases hwaits : c.awaitedBy h with
    | true => exact ⟨ClaimRec.withdrawn_without hheld, fun w hin => (ClaimRec.mem_withdrawn hin).2⟩
    | false => exact ⟨hheld, (c.awaitedBy_eq_false h).mp hwaits⟩

/-- A closed session is sent nothing. -/
theorem foldl_notifyAt_closed {s : State} {h : HostId} (hc : (s.session h).isOpen = false) (news : List (Time × NoticeBody)) :
    news.foldl (fun u n => u.notifyAt h n.1 n.2) s = s := by
  induction news with
  | nil => rfl
  | cons n news ih => rw [List.foldl_cons, s.notifyAt_closed h n.1 n.2 hc, ih]

section OwnPart

variable (s : State) (h : HostId) (cause : EndCause)

theorem State.endOwn_session (k : HostId) : (s.endOwn h cause).session k = if k = h then (s.session h).ended cause else s.session k := by
  rw [← s.endSession_session h k cause, State.session, State.session, (s.endSession_answers h cause).sessions rfl]

theorem State.endOwn_noticeRec (k : HostId) : (s.endOwn h cause).noticeRec k = if k = h then (s.noticeRec h).flushed else s.noticeRec k := by
  have hafter : (s.endOwn h cause).notices = (s.flushedOf h cause).notices := by
    rw [s.endOwn_eq, (State.endSubscriptions_touches _ h).notices rfl, (State.removeReflexes_none_touches _ _).notices rfl,
      (State.removeQuietly_touches _ _).notices rfl]
  rw [State.noticeRec, hafter]
  exact Quad.get_set _ h k _

theorem State.endOwn_slotsFollow (hn : (s.entries.map fun e => e.handle.slot).Nodup) : SlotsFollow s (s.endOwn h cause) := by
  have hreflexes := State.removeReflexes_none_touches ((s.flushedOf h cause).removeQuietly fun e => decide (e.owner = h))
    (fun _ r => decide (r.owner = h))
  have hsubs := State.endSubscriptions_touches (((s.flushedOf h cause).removeQuietly fun e => decide (e.owner = h)).removeReflexes
    (fun _ r => decide (r.owner = h)) none) h
  rw [s.endOwn_eq]
  exact SlotsFollow.congr (State.removeEntries_slotsFollow (s.flushedOf h cause) (fun e => decide (e.owner = h)) (fun _ => none) hn)
    rfl rfl (congrArg (List.map _) ((hsubs.entries rfl).trans (hreflexes.entries rfl))) ((hsubs.uses rfl).trans (hreflexes.uses rfl))

end OwnPart

/-- What the end of host `h`'s session tells another host, answer by answer. -/
theorem answerNews_ended {s : State} {h k : HostId} (cause : EndCause) (hk : k ≠ h) (hn : (s.entries.map fun e => e.handle.slot).Nodup)
    (x : EndAnswer) :
    answerNews (s.endOwn h cause) h x k =
      match x with
      | .timebase => holdEndNews s h k
      | .line l => leavingNews s h l k := by
  have htouched := s.endOwn_touches h cause
  have htb := htouched.tb rfl
  cases x with
  | line l => exact leavingNews_standing (congrArg Timebase.now htb) (congrArg (·[l]) (htouched.claims rfl)) h k
  | timebase =>
    have hsame : (s.endOwn h cause).endDiscards h = s.endDiscards h := by rw [State.endDiscards, State.endDiscards, htb]
    have hwatches : (s.endOwn h cause).watches k = s.watches k := by
      rw [State.watches, State.watches, s.endOwn_session, if_neg hk]
    have hplanned : s.tb.hasPlans = true ↔ Planned s := by simp [Timebase.hasPlans]
    rw [answerNews, hsame, holdEndNews]
    cases hd : s.endDiscards h with
    | true =>
      obtain ⟨hholder, hmode, hplans⟩ := State.endDiscards_iff.mp hd
      have hother : ¬ (some h = some k) := fun hb => hk (Option.some.inj hb).symm
      have hdiscards : discardedWith s h = lapses s := funext fun e => discardedWith_of_endDiscards hd e
      have hremoved : removalNews (s.endOwn h cause) k (lapses (s.endOwn h cause)) (.evicted · .frameLength) =
          removalNews s k (lapses s) (.evicted · .frameLength) := by
        rw [removalNews, removalNews, s.endOwn_entries h cause hn, htb, List.filter_filter]
        refine congrArg (List.map _) (List.filter_congr fun e _ => ?_)
        rw [lapses_congr htb]
        by_cases he : e.owner = k <;> simp [he, hk]
      rw [if_pos rfl, hremoved, timebaseNews, htb, hwatches, hdiscards]
      simp only [hother, false_or, hholder, hmode, hplanned.mp hplans, true_and]
    | false =>
      have hnone : removalNews s k (discardedWith s h) (.evicted · .frameLength) = [] := by
        refine List.map_eq_nil_iff.mpr (List.filter_eq_nil_iff.mpr fun e _ he => ?_)
        exact ne_true_of_eq_false hd (endDiscards_of_discardedWith (Bool.and_eq_true_iff.mp he).2)
      rw [hnone, if_neg Bool.false_ne_true, if_neg]
      · rfl
      · rintro ⟨hholder, hmode, hplans, -⟩
        exact ne_true_of_eq_false hd (State.endDiscards_iff.mpr ⟨hholder, hmode, hplanned.mpr hplans⟩)

/-- What the end of a session tells another host: the parts, in an order in which the discard's keep theirs. -/
theorem State.endSession_news {s : State} {h k : HostId} (cause : EndCause) (hk : k ≠ h)
    (hn : (s.entries.map fun e => e.handle.slot).Nodup) {given : List EndAnswer} (hgiven : given.Perm allAnswers) :
    (given.flatMap (answerNews (s.endOwn h cause) h · k)).Perm
        (holdEndNews s h k ++ (List.finRange 12).flatMap fun l => leavingNews s h l k) ∧
      (holdEndNews s h k).Sublist (given.flatMap (answerNews (s.endOwn h cause) h · k)) := by
  have hhold := answerNews_ended cause hk hn .timebase
  have hlines (l : LineId) := answerNews_ended cause hk hn (.line l)
  constructor
  · refine (hgiven.flatMap_right _).trans (List.Perm.of_eq ?_)
    rw [allAnswers, List.flatMap_cons, hhold, List.flatMap_map]
    exact congrArg (_ ++ ·) (List.flatMap_congr fun l _ => hlines l)
  · obtain ⟨before, behind, rfl⟩ := List.append_of_mem (hgiven.mem_iff.mpr (List.mem_cons_self : EndAnswer.timebase ∈ allAnswers))
    rw [List.flatMap_append, List.flatMap_cons, hhold]
    exact (List.sublist_append_left _ _).trans (List.sublist_append_right _ _)

/-- The end of a session, whatever the order of its answers (R160). -/
theorem sessionEnded {s : State} {h : HostId} (cause : EndCause) (hw : WaitListsConsistent s) (hr : ScheduleInRoom s) :
    SessionEnded s (s.endSession h cause) h cause := by
  have hn := hr.1
  have hown := s.endOwn_entries h cause hn
  have hownslots : ((s.endOwn h cause).entries.map fun e => e.handle.slot).Nodup := by
    rw [hown]
    exact hn.sublist (List.filter_sublist.map _)
  obtain ⟨hslots, given, hgiven, htold⟩ := s.endSession_told h cause hownslots
  have hsession (k : HostId) := s.endSession_session h k cause
  have hchannel := s.endSession_channel h cause
  have hreflex := s.endSession_reflex h cause
  have hline := s.endSession_line h cause
  have hentries := s.endSession_entries h cause hn
  have htb : (s.endSession h cause).tb = tbWithout s h := s.endSession_tb h cause
  have hrec (k : HostId) := s.endOwn_noticeRec h cause k
  have hownsession (k : HostId) := s.endOwn_session h cause k
  have hownfollow := s.endOwn_slotsFollow h cause hn
  generalize s.endSession h cause = u at *
  have hclosed : ((s.endOwn h cause).session h).isOpen = false := by rw [hownsession, if_pos rfl]; rfl
  have hflushed : u.noticeRec h = (s.noticeRec h).flushed := by
    rw [htold.receives h, foldl_notifyAt_closed hclosed, hrec, if_pos rfl]
  have hother (e : Entry) (he : e ∈ u.entries) : e ∈ s.entries ∧ e.owner ≠ h ∧ discardedWith s h e = false := by
    rw [hentries, List.mem_filter, Bool.and_eq_true, decide_eq_true_eq, Bool.not_eq_true'] at he
    exact he
  have hgone (l : LineId) := ClaimRec.endedBy_gone (h := h) (hw l).2.1
  have hheld {l : LineId} (hin : (s.claim l).holders.get h = true) : HoldingLeft s u h l :=
    holdingLeft_of ((hline l).1.trans (if_pos hin)) ((hline l).2.trans (if_pos hin))
  have hwaited {l : LineId} (hout : (s.claim l).holders.get h = false) (hin : ∃ w ∈ (s.claim l).waiting, w.host = h) :
      PlaceWithdrawn s u h l := by
    refine placeWithdrawn_of ((hline l).1.trans ?_) ((hline l).2.trans (if_neg (ne_true_of_eq_false hout)))
    exact (if_neg (ne_true_of_eq_false hout)).trans (if_pos (((s.claim l).awaitedBy_iff h).mpr hin))
  have hfree {l : LineId} (hout : (s.claim l).holders.get h = false) (hno : ∀ w ∈ (s.claim l).waiting, w.host ≠ h) :
      u.claim l = s.claim l ∧ u.line l = s.line l := by
    refine ⟨(hline l).1.trans ?_, (hline l).2.trans (if_neg (ne_true_of_eq_false hout))⟩
    exact (if_neg (ne_true_of_eq_false hout)).trans
      (if_neg (ne_true_of_eq_false (((s.claim l).awaitedBy_eq_false h).mpr hno)))
  refine ⟨(hsession h).trans (if_pos rfl), ⟨fun e he => (hother e he).2.1, fun c => ⟨?_, fun r hin => ?_⟩, fun l => ?_, ?_⟩, ?_,
    hentries, SlotsFollow.trans hownfollow hslots ?_ ?_, htb, fun c => ⟨fun hout => ?_, fun hin => ⟨fun hk => ?_, fun hk => ?_⟩⟩,
    fun c hno => ?_, fun l => hheld, fun l => hwaited, fun l => hfree, fun k hk => (hsession k).trans (if_neg hk), fun k hk => ?news⟩
  · rw [hchannel]
    split
    · rw [ChannelRec.without_subscribers, Quad.get_set_same]
    · next hout => exact Bool.eq_false_iff.mpr hout
  · rw [hreflex, Option.mem_def, Option.filter_eq_some_iff] at hin
    simpa using hin.2
  · rw [(hline l).1]
    exact hgone l
  · rw [htb, tbWithout_eq, Timebase.without]
    split
    · split <;> exact nofun
    · next hne => exact hne
  · rw [hflushed]
    exact ⟨rfl, rfl, rfl, rfl, rfl⟩
  · rw [hown]
    exact fun e he => ⟨e, List.mem_of_mem_filter he, rfl⟩
  · refine fun e he => ⟨e, ?_, rfl⟩
    rw [hown, List.mem_filter, decide_eq_true_eq]
    exact ⟨(hother e he).1, (hother e he).2.1⟩
  · exact (hchannel c).trans (if_neg (ne_true_of_eq_false hout))
  · exact ((hchannel c).trans (if_pos hin)).trans (ChannelRec.without_shared hk)
  · exact ((hchannel c).trans (if_pos hin)).trans (ChannelRec.without_alone hk)
  · rw [hreflex]
    cases hc : s.reflex c with
    | none => rfl
    | some r => exact Option.filter_eq_some_iff.mpr ⟨rfl, by simpa using hno r hc⟩
  case news =>
    obtain ⟨hperm, hsub⟩ := State.endSession_news (s := s) cause hk hn hgiven
    refine ⟨_, hperm, hsub, (htold.receives k).trans (foldl_notifyAt_noticeRec_congr _ ?_ ?_)⟩
    · exact (hrec k).trans (if_neg hk)
    · rw [hownsession, if_neg hk]

/-! ## The rows that end a session -/

/-- Nothing of a session end is in the ports. -/
theorem SessionEnded.ported {s u t : State} {h : HostId} {cause : EndCause} (he : SessionEnded s u h cause)
    (ht : OnlyTouches { ports := true } u t) : SessionEnded s t h cause := by
  have hsame : t = { u with ports := t.ports } := by
    have h1 := ht.tb rfl; have h2 := ht.entries rfl; have h3 := ht.uses rfl; have h4 := ht.lines rfl
    have h5 := ht.claims rfl; have h6 := ht.channels rfl; have h7 := ht.reflexes rfl; have h8 := ht.notices rfl
    have h9 := ht.sessions rfl; have h10 := ht.choices rfl; have h11 := ht.pending; have h12 := ht.resetN
    cases t
    cases u
    simp_all
  rw [hsame]
  exact he

/-- A session end that a request brings, as from the state before the frame arrived: that has only restarted a silence timer. -/
theorem SessionEnded.requested {s u : State} {p : HostId} {cause : EndCause} (he : SessionEnded (arrived s p) u p cause) :
    SessionEnded s u p cause := by
  have hwatches (k : HostId) : (arrived s p).watches k = s.watches k := by
    rw [State.watches, State.session, s.arrived_session]
    rfl
  have hhold (k : HostId) : holdEndNews (arrived s p) p k = holdEndNews s p k := by
    rw [holdEndNews, holdEndNews, hwatches]
    rfl
  obtain ⟨hsession, hnothing, hflushed, hlist, hslots, htb, hleft, hkept, hheld, hwaited, hfree, hothers, hnews⟩ := he
  have hleaves (l : LineId) (hin : (s.claim l).holders.get p = true) : HoldingLeft s u p l := by
    refine ⟨(hheld l hin).1, fun halone => ?_⟩
    obtain ⟨hclaim, hline⟩ := (hheld l hin).2 halone
    rw [((arrived s p).handOn_line l l).1] at hclaim
    rw [((arrived s p).handOn_line l l).2] at hline
    exact ⟨hclaim.trans (s.handOn_line l l).1.symm, hline.trans (s.handOn_line l l).2.symm⟩
  rw [s.arrived_number] at hsession
  refine ⟨hsession, hnothing, hflushed, hlist, SlotsFollow.congr hslots rfl rfl rfl rfl, htb, hleft, hkept, hleaves, hwaited, hfree,
    fun k hk => (hothers k hk).trans ((State.session_setSession _ p k _).trans (if_neg hk)), fun k hk => ?_⟩
  obtain ⟨news, hperm, hsub, hreceives⟩ := hnews k hk
  rw [hhold] at hperm hsub
  refine ⟨news, hperm, hsub, hreceives.trans (foldl_notifyAt_noticeRec_congr news rfl ?_)⟩
  exact s.arrived_isOpen p k

theorem State.endSession_ports (s : State) (h : HostId) (cause : EndCause) : (s.endSession h cause).ports = s.ports :=
  (s.endSession_touches h cause).ports rfl

/-- Settles O16: the session end of the requester, and its answer. -/
theorem closeEndsTheSession : Obligations.CloseEndsTheSession := by
  intro s p tag h ho hw hr
  have hend := SessionEnded.requested (sessionEnded (s := arrived s p) (h := p) .close hw hr)
  have hports := (arrived s p).endSession_ports p .close
  have hblock : closeBlock p [] (arrived s p) = ⟨(arrived s p).endSession p .close, .ok, [(s.session p).number]⟩ := by
    rw [← s.arrived_number p p]
    rfl
  have hexec := IsRequest.closing.answered h rfl (.inr ho) hblock
  generalize (arrived s p).endSession p .close = u at *
  refine ⟨_, hexec, SessionEnded.ported hend (u.placeReply_touches p tag _ _), placeReply_answers .., ?_, fun k hk => ?_⟩
  · rw [State.port, u.placeReply_port_same, hports, s.arrived_port_same]
    rfl
  · rw [State.port, u.placeReply_port_ne _ _ _ hk, hports, s.arrived_port_ne hk]

/-- A port after PORT_RESET, before the reply (R179). -/
def State.portCleared (s : State) (p : HostId) : State :=
  s.setPort p { s.port p with frameErrors := 0, slot := none, unread := false }

theorem State.portCleared_answered (s : State) (p : HostId) (tag : Byte) (st : Status) (items : List Byte) :
    (((s.portCleared p).placeReply p tag st items).port p).frameErrors = 0 ∧
      (∀ r ∈ (((s.portCleared p).placeReply p tag st items).port p).slot, r.prevUnread = false) ∧
      ∀ k, k ≠ p → ((s.portCleared p).placeReply p tag st items).port k = s.port k := by
  have hport : (s.portCleared p).ports.get p = { s.port p with frameErrors := 0, slot := none, unread := false } :=
    Quad.get_set_same ..
  refine ⟨?_, ?_, fun k hk => ?_⟩
  · rw [State.port, State.placeReply_port_same, hport]
  · rw [State.port, State.placeReply_port_same, hport]
    rintro r hr
    cases hr
    rfl
  · rw [State.port, State.placeReply_port_ne _ _ _ _ hk]
    exact Quad.get_set_ne _ _ hk

/-- Settles O17: the port's own part, behind the session end where a session is open. -/
theorem portResetClearsThePort : Obligations.PortResetClearsThePort := by
  intro s p tag h hw hr
  have hothers {u : State} (hports : u.ports = (arrived s p).ports) (k : HostId) (hk : k ≠ p) : u.port k = s.port k := by
    rw [State.port, hports, s.arrived_port_ne hk]
  cases ho : (s.session p).isOpen with
  | true =>
    have hend := SessionEnded.requested (sessionEnded (s := arrived s p) (h := p) .portReset hw hr)
    have hports := (arrived s p).endSession_ports p .portReset
    have hblock : portResetBlock p [] (arrived s p) = ⟨((arrived s p).endSession p .portReset).portCleared p, .ok, [1]⟩ := by
      simp only [portResetBlock, State.arrived_open p ho]
      rfl
    have hexec := IsRequest.portReset.answered h rfl (.inl rfl) hblock
    generalize (arrived s p).endSession p .portReset = u at *
    obtain ⟨herrors, hprev, hkept⟩ := u.portCleared_answered p tag .ok [1]
    refine ⟨_, hexec, herrors, hprev, fun k hk => (hkept k hk).trans (hothers hports k hk), fun _ => ⟨?_, placeReply_answers ..⟩,
      fun hno => absurd ho hno⟩
    exact SessionEnded.ported hend ((u.setPort_touches p _).step (State.placeReply_touches _ p tag _ _))
  | false =>
    have hblock : portResetBlock p [] (arrived s p) = ⟨(arrived s p).portCleared p, .ok, [0]⟩ := by
      simp only [portResetBlock, State.arrived_session_closed ho, ho]
      rfl
    have hsessions : (arrived s p).sessions = s.sessions := by
      refine Quad.ext_get fun k => ?_
      by_cases hk : k = p
      · subst hk
        exact State.arrived_session_closed ho
      · exact (State.session_setSession _ p k _).trans (if_neg hk)
    obtain ⟨herrors, hprev, hkept⟩ := (arrived s p).portCleared_answered p tag .ok [0]
    refine ⟨_, IsRequest.portReset.answered h rfl (.inl rfl) hblock, herrors, hprev,
      fun k hk => (hkept k hk).trans (hothers rfl k hk), fun hyes => absurd (ho.symm.trans hyes) Bool.false_ne_true,
      fun _ => ⟨⟨rfl, rfl, rfl, rfl, rfl, rfl, rfl⟩, hsessions, rfl, placeReply_answers ..⟩⟩

/-! ## The expiry -/

theorem SessionRec.counted_expired {r : SessionRec} {units periods : Nat} (ho : r.isOpen = true) (ht : r.timer = some ⟨units, periods⟩) :
    r.counted.expired = decide (r.silenceLimit ≤ (SilenceTimer.counted ⟨units, periods⟩).units) := by
  simp only [SessionRec.counted, ho, if_true, SessionRec.expired, ht, Option.map_some, Bool.true_and]

theorem SessionRec.counted_expired_stopped {r : SessionRec} (h : r.isOpen = false ∨ r.timer = none) : r.counted.expired = false := by
  unfold SessionRec.counted SessionRec.expired
  rcases h with hc | ht
  · simp [hc]
  · split <;> simp [ht]

theorem SilenceTimer.counted_units (units periods : Nat) :
    (SilenceTimer.counted ⟨units, periods⟩).units = if 262 ≤ periods + 1 then units + 1 else units := by
  unfold SilenceTimer.counted
  exact apply_ite SilenceTimer.units _ _ _

theorem execSilenceExpiry_ended {s : State} {h : HostId} (hdue : (s.session h).counted.expired = true) :
    exec (.silenceExpiry h) s = .next (s.endSession h .silence) :=
  congrArg Host.Outcome.next (if_pos hdue)

theorem execSilenceExpiry_stands {s : State} {h : HostId} (hno : (s.session h).counted.expired = false) :
    exec (.silenceExpiry h) s = .next s :=
  congrArg Host.Outcome.next (if_neg (ne_true_of_eq_false hno))

/-- Settles O18: the session end at the limit, and the cases without an expiry. -/
theorem silenceExpiryEndsTheSession : Obligations.SilenceExpiryEndsTheSession := by
  intro s h
  refine ⟨fun ho units ht hlimit hw hr => ?_, fun units periods ht hperiods hfurther => execSilenceExpiry_stands ?_,
    fun hno => execSilenceExpiry_stands ?_⟩
  · have hdue : (s.session h).counted.expired = true := by
      rw [SessionRec.counted_expired ho ht, SilenceTimer.counted_units, decide_eq_true_eq]
      exact hlimit.ge
    exact ⟨_, execSilenceExpiry_ended hdue, sessionEnded .silence hw hr, s.endSession_ports h .silence⟩
  · cases ho : (s.session h).isOpen with
    | false => exact SessionRec.counted_expired_stopped (.inl ho)
    | true =>
      rw [SessionRec.counted_expired ho ht, SilenceTimer.counted_units, decide_eq_false_iff_not]
      split <;> omega
  · exact SessionRec.counted_expired_stopped (hno.imp_left Bool.eq_false_iff.mpr)

end Sys2Proof.Machine
end

section
/-! What is found of news in a record with room for it (R137, R139), and an entry's firing and expiry (R16 to R20, R117). -/

set_option Elab.async false

namespace Sys2Proof.Machine

open Sys2Proof.Safety

/-! ## News and the records of its addressees -/

section Held

variable {s t : State} {h : HostId}

/-- What notices make of the record of host `h` that they are sent to. -/
def State.sentAll (s : State) (h : HostId) (news : List (Time × NoticeBody)) : State :=
  news.foldl (fun u n => u.notifyAt h n.1 n.2) s

theorem State.notifyAt_session (s : State) (h k : HostId) (stamp : Time) (body : NoticeBody) :
    (s.notifyAt h stamp body).session k = s.session k := by
  rw [State.session, (s.notifyAt_same h stamp body).sessions]

theorem State.sentAll_nextNumber (s : State) (h : HostId) (news : List (Time × NoticeBody)) : Sent s (s.sentAll h news) h news.length := by
  induction news generalizing s with
  | nil => simp [Sent, State.sentAll]
  | cons n news ih =>
    have hrest := ih (s.notifyAt h n.1 n.2)
    rw [Sent, State.notifyAt_session, State.noticeRec, State.noticeRec, s.notifyAt_nextNumber h h n.1 n.2] at hrest
    refine hrest.trans ?_
    by_cases ho : (s.session h).isOpen = true
    · rw [if_pos ho, if_pos ho, if_pos ⟨rfl, ho⟩, List.length_cons, BitVec.add_assoc, BitVec.add_comm 1, BitVec.ofNat_add]
      rfl
    · rw [if_neg ho, if_neg ho]
      exact if_neg fun hb => ho hb.2

theorem Receives.sent {news : List (Time × NoticeBody)} (hr : Receives s t h news) : Sent s t h news.length := by
  rw [Sent, hr]
  exact s.sentAll_nextNumber h news

/-- A notice to an open session with room is held, and so is what was held before. -/
theorem State.notifyAt_held (ho : Open s h) (hroom : (s.noticeRec h).held.length < Config.queueCapacity) (stamp : Time)
    (body : NoticeBody) :
    ((s.notifyAt h stamp body).noticeRec h).held.Perm ((s.noticeRec h).stampOf stamp body :: (s.noticeRec h).held) := by
  rw [s.noticeRec_notifyAt_open h stamp body ho, NoticeRec.arrive_eq_place, NoticeRec.place_joins (r := (s.noticeRec h).numbered) _ hroom,
    NoticeRec.join_eq]
  unfold NoticeRec.held NoticeRec.numbered
  dsimp only
  split
  · rw [List.append_assoc]
    exact List.perm_middle
  · rw [← List.append_assoc]
    exact List.perm_append_singleton _ _

/-- Notices that all find room. -/
theorem State.sentAll_held (ho : Open s h) (news : List (Time × NoticeBody))
    (hroom : (s.noticeRec h).held.length + news.length ≤ Config.queueCapacity) :
    (∀ m ∈ (s.noticeRec h).held, m ∈ ((s.sentAll h news).noticeRec h).held) ∧
      ∀ i n, news[i]? = some n → ∃ m ∈ ((s.sentAll h news).noticeRec h).held,
        m.number = (s.noticeRec h).nextNumber + BitVec.ofNat 8 i ∧ m.stamp = n.1 ∧ m.body = n.2 := by
  induction news generalizing s with
  | nil => exact ⟨fun m hm => hm, nofun⟩
  | cons x news ih =>
    rw [List.length_cons] at hroom
    have hheld := State.notifyAt_held ho (by omega) x.1 x.2
    have hopen : Open (s.notifyAt h x.1 x.2) h := by
      rw [Open, State.notifyAt_session]
      exact ho
    have hlength := hheld.length_eq
    rw [List.length_cons] at hlength
    obtain ⟨hkept, hfound⟩ := ih hopen (by omega)
    refine ⟨fun m hm => hkept m (hheld.mem_iff.mpr (List.mem_cons_of_mem _ hm)), fun i n hi => ?_⟩
    cases i with
    | zero =>
      cases hi
      refine ⟨_, hkept _ (hheld.mem_iff.mpr List.mem_cons_self), ?_, rfl, rfl⟩
      exact (BitVec.add_zero _).symm
    | succ i =>
      obtain ⟨m, hm, hnumber, hstamp, hbody⟩ := hfound i n hi
      refine ⟨m, hm, hnumber.trans ?_, hstamp, hbody⟩
      have hone := s.notifyAt_nextNumber h h x.1 x.2
      rw [if_pos ⟨rfl, ho⟩] at hone
      rw [State.noticeRec, hone, BitVec.add_assoc, BitVec.add_comm 1, BitVec.ofNat_add]
      rfl

/-- Each notice that a host with room for all is sent stands in its record, under the number of its turn. -/
theorem Receives.found {news : List (Time × NoticeBody)} (hr : Receives s t h news) (ho : Open s h)
    (hroom : (s.noticeRec h).held.length + news.length ≤ Config.queueCapacity) {i : Nat} {stamp : Time} {body : NoticeBody}
    (hi : news[i]? = some (stamp, body)) :
    ∃ m ∈ (t.noticeRec h).held, m.number = (s.noticeRec h).nextNumber + BitVec.ofNat 8 i ∧ m.stamp = stamp ∧ m.body = body := by
  rw [hr]
  exact (State.sentAll_held ho news hroom).2 i _ hi

end Held

/-- Where nobody is told anything, the notice records stand. -/
theorem Tells.notices {s t : State} {news : HostId → List (Time × NoticeBody)} (h : Tells s t news) (hnone : ∀ k, news k = []) :
    t.notices = s.notices := by
  refine Quad.ext_get fun k => ?_
  have := h.receives k
  rw [hnone] at this
  exact this

/-! ## An entry that fires -/

theorem State.afterFiring_last (s : State) {e : Entry} (h : e.recurrence = none ∨ ∃ n, e.recurrence = some ⟨n, 1⟩) :
    s.afterFiring e = ⟨s.leave e, true, 0, none⟩ := by
  unfold State.afterFiring
  rcases h with h | ⟨n, h⟩ <;> simp [h]

section Recurring

variable {s : State} {e : Entry} {period remaining : Nat} (hr : e.recurrence = some ⟨period, remaining⟩) (hmore : remaining ≠ 1)

include hr hmore

theorem State.afterFiring_continues (hfits : (s.takeOut e).reinsertFails e (e.nextDue period) = none) :
    s.afterFiring e = ⟨(s.takeOut e).reinsert (e.next ⟨period, remaining⟩), false, remaining - 1, none⟩ := by
  unfold State.afterFiring
  rw [hr]
  refine (if_neg hmore).trans ?_
  change State.continueEntry s e period (remaining - 1) = _
  unfold State.continueEntry
  dsimp only
  rw [← Entry.nextDue, hfits]
  rfl

theorem State.afterFiring_evicts {reason : EvictReason} (hfails : (s.takeOut e).reinsertFails e (e.nextDue period) = some reason) :
    s.afterFiring e = ⟨s.leave e, true, remaining - 1, some reason⟩ := by
  unfold State.afterFiring
  rw [hr]
  refine (if_neg hmore).trans ?_
  change State.continueEntry s e period (remaining - 1) = _
  unfold State.continueEntry
  dsimp only
  rw [← Entry.nextDue, hfails]

end Recurring

theorem State.afterFiring_silent (s : State) (e : Entry) :
    (s.afterFiring e).state.notices = s.notices ∧ (s.afterFiring e).state.sessions = s.sessions := by
  unfold State.afterFiring State.continueEntry
  split
  · exact ⟨rfl, rfl⟩
  · split
    · exact ⟨rfl, rfl⟩
    · dsimp only
      split <;> exact ⟨rfl, rfl⟩

theorem State.afterFiring_tb (s : State) (e : Entry) : (s.afterFiring e).state.tb = s.tb := (s.afterFiring_same e).tb

/-- What an entry's firing sends its owner (R16, R17, R19). -/
def State.firingNews (s : State) (late : Bool) (e : Entry) (a : AfterFiring) : List (Time × NoticeBody) :=
  (if e.notify then
    [(s.tb.now, .fired e.handle e.deed.action e.deed.target (s.resultLevel e.deed) late a.final a.remaining e.origin)]
  else []) ++ (a.evicted.map fun reason => (s.tb.now, .evicted e.handle reason)).toList

theorem State.conclude_tells (s : State) (late : Bool) (e : Entry) : Tells s (s.conclude late e) fun k =>
    if e.owner = k then s.firingNews late e ((s.rearmBy e.deed).afterFiring e) else [] := by
  have hrearm := s.rearmBy_touches e.deed
  obtain ⟨hnotices, hsessions⟩ := (s.rearmBy e.deed).afterFiring_silent e
  have htb := ((s.rearmBy e.deed).afterFiring_tb e).trans (hrearm.tb rfl)
  unfold State.conclude State.firingNews
  generalize (s.rearmBy e.deed).afterFiring e = a at *
  dsimp only
  generalize hbody : NoticeBody.fired e.handle e.deed.action e.deed.target (s.resultLevel e.deed) late a.final a.remaining e.origin =
    body
  have hdone : Tells s (if e.notify then a.state.notify e.owner body else a.state) fun k =>
      if e.owner = k then (if e.notify then [(s.tb.now, body)] else []) else [] := by
    have hsilent : Tells s a.state fun _ => [] := .silent (hsessions.trans (hrearm.sessions rfl)) (hnotices.trans (hrearm.notices rfl))
    split
    · refine Tells.congr (hsilent.trans (a.state.notifyAt_tells e.owner a.state.now body)) fun k => ?_
      rw [State.now, htb]
      rfl
    · exact hsilent.congr fun k => ite_self _
  have hnow : (if e.notify then a.state.notify e.owner body else a.state).now = s.tb.now := by
    split
    · rw [State.now, (a.state.notify_same e.owner body).tb, htb]
    · rw [State.now, htb]
  generalize (if e.notify then a.state.notify e.owner body else a.state) = told at *
  cases a.evicted with
  | none => exact hdone.congr fun k => by split <;> simp
  | some reason =>
    refine (hdone.trans (told.notifyAt_tells e.owner told.now (.evicted e.handle reason))).congr fun k => ?_
    rw [hnow]
    split <;> rfl

/-- The DONE of an entry that fires and is not evicted (R16, R17). -/
theorem tellsDone_of {s : State} {late : Bool} {e : Entry} {a : AfterFiring} (ha : (s.rearmBy e.deed).afterFiring e = a)
    (hkept : a.evicted = none) : TellsDone s late e a.final a.remaining := by
  have htold := s.conclude_tells late e
  rw [ha, State.firingNews, hkept] at htold
  refine ⟨fun hn => htold.notices fun k => ?_, fun hn ho hroom => ?_⟩
  · simp [hn]
  · have hreceives := htold.receives e.owner
    rw [if_pos rfl, hn] at hreceives
    obtain ⟨m, hm, _, hstamp, hbody⟩ := Receives.found hreceives ho hroom (i := 0) rfl
    exact ⟨m, hm, hstamp, hbody⟩

/-- The notices of an entry that fires and is evicted (R16, R19). -/
theorem tellsEvicted_of {s : State} {late : Bool} {e : Entry} {a : AfterFiring} {reason : EvictReason}
    (ha : (s.rearmBy e.deed).afterFiring e = a) (hfinal : a.final = true) (hevicted : a.evicted = some reason) :
    TellsEvicted s late e a.remaining reason := by
  have hreceives := (s.conclude_tells late e).receives e.owner
  rw [if_pos rfl, ha, State.firingNews, hevicted, hfinal] at hreceives
  cases hn : e.notify with
  | true =>
    rw [hn] at hreceives
    refine ⟨by rw [hn]; exact Receives.sent hreceives, fun ho hroom => ⟨fun _ => ?_, ?_⟩⟩
    · obtain ⟨m, hm, hnumber, hstamp, hbody⟩ := Receives.found hreceives ho hroom (i := 0) rfl
      exact ⟨m, hm, hnumber.trans (BitVec.add_zero _), hstamp, hbody⟩
    · rw [hn]
      exact Receives.found hreceives ho hroom (i := 1) rfl
  | false =>
    rw [hn] at hreceives
    refine ⟨by rw [hn]; exact Receives.sent hreceives, fun ho hroom => ⟨fun hb => absurd (hn.symm.trans hb) Bool.false_ne_true, ?_⟩⟩
    obtain ⟨m, hm, hnumber, hstamp, hbody⟩ := Receives.found hreceives ho (Nat.le_of_lt hroom) (i := 0) rfl
    refine ⟨m, hm, hnumber.trans ?_, hstamp, hbody⟩
    rw [hn]
    exact BitVec.add_zero _

/-! ## The tests of a re-insertion -/

section Tests

variable {s : State} {e : Entry} (hn : (s.entries.map fun e => e.handle.slot).Nodup)

include hn

theorem State.takeOut_entries : (s.takeOut e).entries = s.entries.filter fun x => decide (x.handle.slot ≠ e.handle.slot) :=
  eraseP_slot _ _ hn

theorem State.takeOut_collides (l : LineId) (due : Time) :
    (s.takeOut e).collides l due = true ↔ (s.claim l).refusing = true ∧
      ∃ x ∈ s.entries, x.handle.slot ≠ e.handle.slot ∧ x.deed.line = some l ∧ x.due = due := by
  rw [State.collides_iff, State.takeOut_entries hn]
  simp only [List.mem_filter, decide_eq_true_eq, and_assoc]
  rfl

end Tests

section Outcome

variable {s : State} {e : Entry} {due : Time} (hn : (s.entries.map fun e => e.handle.slot).Nodup)
  {governing : Nat} (hgov : governing = if leadOf s.tb.now.frame due.frame = 0 then s.tb.length else s.tb.staged.getD s.tb.length)

include hgov

theorem State.reinsertFails_long (hlong : governing ≤ due.phase) : (s.takeOut e).reinsertFails e due = some .frameLength :=
  if_pos (hgov.ge.trans hlong)

theorem State.reinsertFails_short (hfits : due.phase < governing) : (s.takeOut e).reinsertFails e due =
    match e.deed.line with
    | none => none
    | some l => if (s.takeOut e).collides l due then some .collide else none :=
  if_neg (Nat.not_le_of_lt (hfits.trans_le hgov.le))

include hn

theorem State.reinsertFails_passes (hfits : due.phase < governing)
    (hclear : ∀ l, e.deed.line = some l → (s.claim l).state = .shared → (s.claim l).policy = .refuse →
      ∀ x ∈ s.entries, x.handle.slot ≠ e.handle.slot → x.deed.line = some l → x.due ≠ due) :
    (s.takeOut e).reinsertFails e due = none := by
  rw [State.reinsertFails_short hgov hfits]
  cases hl : e.deed.line with
  | none => rfl
  | some l =>
    refine if_neg fun hb => ?_
    obtain ⟨hrefusing, x, hx, hslot, hline, hdue⟩ := (State.takeOut_collides hn l due).mp hb
    obtain ⟨hshared, hrefuse⟩ := (ClaimRec.refusing_iff _).mp hrefusing
    exact hclear l hl hshared hrefuse x hx hslot hline hdue

theorem State.reinsertFails_collides (hfits : due.phase < governing)
    (hin : ∃ l, e.deed.line = some l ∧ (s.claim l).state = .shared ∧ (s.claim l).policy = .refuse ∧
      ∃ x ∈ s.entries, x.handle.slot ≠ e.handle.slot ∧ x.deed.line = some l ∧ x.due = due) :
    (s.takeOut e).reinsertFails e due = some .collide := by
  obtain ⟨l, hl, hshared, hrefuse, hx⟩ := hin
  rw [State.reinsertFails_short hgov hfits, hl]
  exact if_pos ((State.takeOut_collides hn l due).mpr ⟨(ClaimRec.refusing_iff _).mpr ⟨hshared, hrefuse⟩, hx⟩)

end Outcome

/-! ## What a firing leaves -/

section Left

variable {s : State} {e : Entry} (hn : (s.entries.map fun e => e.handle.slot).Nodup)

theorem State.conclude_rearms (late : Bool) : (s.conclude late e).channels = (s.rearmBy e.deed).channels := by
  rw [← ((s.rearmBy e.deed).afterFiring_same e).channels]
  unfold State.conclude
  dsimp only
  split <;> split <;> simp only [(State.notify_same _ _ _).channels]

theorem State.rearmBy_some {c : ChannelId} (hc : e.deed.rearms = some c) : s.rearmBy e.deed = s.rearm c := by
  rw [State.rearmBy, hc]

theorem State.conclude_channels (late : Bool) (hc : e.deed.rearms = none) : (s.conclude late e).channels = s.channels := by
  rw [State.conclude_rearms, State.rearmBy, hc]

theorem State.conclude_channel (late : Bool) {c : ChannelId} (hc : e.deed.rearms = some c) : (s.conclude late e).channel c =
    if (s.channel c).state = .idle then s.channel c else { s.channel c with state := .opened, counter := 0 } := by
  rw [State.channel, State.conclude_rearms, State.rearmBy_some hc]
  refine (s.rearm_channel c c).trans ?_
  by_cases hidle : (s.channel c).state = .idle
  · rw [if_pos hidle, if_neg fun hb => hb.2 hidle]
  · rw [if_neg hidle, if_pos ⟨rfl, hidle⟩]

theorem State.conclude_channel_ne (late : Bool) {c k : ChannelId} (hc : e.deed.rearms = some c) (hk : k ≠ c) :
    (s.conclude late e).channel k = s.channel k := by
  rw [State.channel, State.conclude_rearms, State.rearmBy_some hc]
  exact (s.rearm_channel c k).trans (if_neg fun hb => hk hb.1)

include hn

/-- An entry that leaves behind its firing: the list without it, and its slot's use count raised (R2, R17). -/
theorem State.conclude_left (late : Bool) {a : AfterFiring} (ha : (s.rearmBy e.deed).afterFiring e = a)
    (hstate : a.state = (s.rearmBy e.deed).leave e) :
    (s.conclude late e).entries = s.entries.filter (fun x => decide (x.handle.slot ≠ e.handle.slot)) ∧
      (s.conclude late e).uses[e.handle.slot] = s.uses[e.handle.slot] + 1 := by
  have hrearm := s.rearmBy_touches e.deed
  obtain ⟨hentries, huses⟩ := s.conclude_entries_uses late e
  rw [ha, hstate] at hentries huses
  rw [hentries, huses]
  refine ⟨?_, ?_⟩
  · rw [State.leave_entries _ _ (by rw [hrearm.entries rfl]; exact hn), hrearm.entries rfl]
  · rw [State.leave_uses, if_pos rfl, hrearm.uses rfl]

end Left

/-- Settles O43: the three ways of a firing, and the expiry. -/
theorem firedEntryLeavesOrContinues : Obligations.FiredEntryLeavesOrContinues := by
  intro s late e hroom he
  have hn := hroom.1
  have hsame := s.conclude_touches late e
  refine ⟨hsame.lines rfl, hsame.claims rfl, hsame.tb rfl, State.conclude_channels late, fun c => State.conclude_channel late,
    fun hlast => ?last, fun period remaining due hr hmore hdue hfits hclear => ?continues,
    fun period remaining due governing reason hr hmore hdue hgov hwhy => ?evicted, ?expired⟩
  case last =>
    have ha := (s.rearmBy e.deed).afterFiring_last hlast
    obtain ⟨hentries, huses⟩ := s.conclude_left hn late ha rfl
    exact ⟨hentries, huses, tellsDone_of ha rfl⟩
  case continues =>
    subst hdue
    have hpasses := State.reinsertFails_passes (e := e) hn rfl hfits hclear
    have ha := (s.rearmBy e.deed).afterFiring_continues hr hmore ((s.rearmBy_takeOut_reinsertFails e _).trans hpasses)
    obtain ⟨hentries, huses⟩ := s.conclude_entries_uses late e
    have hrearm := s.rearmBy_touches e.deed
    rw [ha] at hentries huses
    refine ⟨hentries.trans ?_, huses.trans (hrearm.uses rfl), tellsDone_of ha rfl⟩
    have hout := State.takeOut_entries (s := s.rearmBy e.deed) (e := e) (by rw [hrearm.entries rfl]; exact hn)
    rw [hrearm.entries rfl] at hout
    rw [State.reinsert, State.setEntries_entries, hout, State.now, State.takeOut, State.setEntries_tb, hrearm.tb rfl]
    rfl
  case evicted =>
    subst hdue
    have hfails : (s.takeOut e).reinsertFails e (e.nextDue period) = some reason := by
      rcases hwhy with ⟨rfl, hlong⟩ | ⟨rfl, hfits, hin⟩
      · exact State.reinsertFails_long hgov hlong
      · exact State.reinsertFails_collides hn hgov hfits hin
    have ha := (s.rearmBy e.deed).afterFiring_evicts hr hmore ((s.rearmBy_takeOut_reinsertFails e _).trans hfails)
    obtain ⟨hentries, huses⟩ := s.conclude_left hn late ha rfl
    exact ⟨hentries, huses, tellsEvicted_of ha rfl rfl⟩
  case expired =>
    have htouched := s.expire_touches e
    have hafter := (s.leave e).notify_same e.owner (.expired e.handle e.deed.target)
    have htold : Tells s (s.expire e) fun k => if e.owner = k then [(s.tb.now, .expired e.handle e.deed.target)] else [] :=
      ((s.leave e).notifyAt_tells e.owner s.tb.now (.expired e.handle e.deed.target)).behind rfl rfl
    refine ⟨hafter.entries.trans (s.leave_entries e hn), ?_, htouched.tb rfl, htouched.lines rfl, htouched.claims rfl,
      htouched.channels rfl, htouched.reflexes rfl, fun h => ?_, fun ho hfree => ?_⟩
    · rw [State.expire, hafter.uses, State.leave_uses, if_pos rfl]
    · have hsent := Receives.sent (htold.receives h)
      by_cases hown : e.owner = h
      · rw [if_pos hown] at hsent
        rw [if_pos hown.symm]
        exact hsent
      · rw [if_neg hown] at hsent
        rw [if_neg (Ne.symm hown)]
        exact hsent
    · have hreceives := htold.receives e.owner
      rw [if_pos rfl] at hreceives
      obtain ⟨m, hm, _, hstamp, hbody⟩ := Receives.found hreceives ho hfree (i := 0) rfl
      exact ⟨m, hm, hstamp, hbody⟩

end Sys2Proof.Machine
end

section
/-! A sense edge: ignored, counted or captured (R110 to R114), and the offer of the channel's reflex (R126 to R128). -/

set_option Elab.async false

namespace Sys2Proof.Machine

open Sys2Proof.Safety

/-! ## The edge that a channel's settled level takes -/

/-- The record once its settled level is that of its line (R110, R111). -/
def ChannelRec.atPin (r : ChannelRec) : ChannelRec := { r with settled := r.pin, filterCount := 0 }

theorem ChannelRec.qualifies_iff (r : ChannelRec) (level : Level) :
    r.qualifies level = true ↔ r.edge ≠ if level then .falling else .rising := by
  unfold ChannelRec.qualifies
  cases r.edge <;> cases level <;> decide

theorem ChannelRec.qualifies_iff_eq (r : ChannelRec) (level : Level) :
    r.qualifies level = true ↔ r.edge = .both ∨ r.edge = if level then .rising else .falling := by
  unfold ChannelRec.qualifies
  cases r.edge <;> cases level <;> decide

section Edge

variable {s : State} {c : ChannelId}

theorem State.countsEdge_iff (level : Level) : s.countsEdge c level = true ↔
    (s.channel c).qualifies level = true ∧ (s.channel c).state = .opened ∧ s.tb.mode = .running := by
  simp only [State.countsEdge, Bool.and_eq_true, decide_eq_true_eq, and_assoc]

/-- The state in which the edge to the level of the line is taken. -/
def State.settling (s : State) (c : ChannelId) : State := s.setChannel c (s.channel c).atPin

theorem State.settling_channel (s : State) (c : ChannelId) : (s.settling c).channel c = (s.channel c).atPin :=
  s.channel_setChannel_same c _

theorem State.settling_counts : (s.settling c).countsEdge c (s.channel c).pin = s.countsEdge c (s.channel c).pin := by
  rw [State.countsEdge, State.settling_channel]
  rfl

theorem State.settleLevel_ignored (h : s.countsEdge c (s.channel c).pin = false) : s.settleLevel c = s.settling c :=
  if_neg (ne_true_of_eq_false (State.settling_counts.trans h))

theorem State.settleLevel_counted (h : s.countsEdge c (s.channel c).pin = true) (hroom : (s.channel c).counter < (s.channel c).prescale) :
    s.settleLevel c = s.setChannel c { (s.channel c).atPin with counter := (s.channel c).counter + 1 } := by
  have hbelow : ¬ ((s.settling c).channel c).atPrescale = true := by
    rw [State.settling_channel, ChannelRec.atPrescale, decide_eq_true_eq]
    exact hroom.not_ge
  refine (if_pos (State.settling_counts.trans h)).trans ((if_neg hbelow).trans ?_)
  change (s.settling c).setChannel c { (s.settling c).channel c with counter := ((s.settling c).channel c).counter + 1 } = _
  rw [State.settling_channel, State.settling, State.setChannel_setChannel]
  rfl

theorem State.settleLevel_captured (h : s.countsEdge c (s.channel c).pin = true) (hfull : (s.channel c).prescale ≤ (s.channel c).counter) :
    s.settleLevel c = (s.settling c).captureOn c (dirOf (s.channel c).pin) := by
  have hat : ((s.settling c).channel c).atPrescale = true := by
    rw [State.settling_channel, ChannelRec.atPrescale, decide_eq_true_eq]
    exact hfull
  exact (if_pos (State.settling_counts.trans h)).trans (if_pos hat)

end Edge

/-! ## A capture -/

theorem allHosts_nodup : allHosts.Nodup := by decide

theorem mem_hostsIn (q : HostSet) (k : HostId) : k ∈ hostsIn q ↔ q.get k = true := by
  have hall : k ∈ allHosts := by cases k <;> decide
  simp [hostsIn, hall]

section Capture

variable (s : State) (c : ChannelId) (edge : EdgeDir)

/-- The notices of a capture sent, before its reflex is offered (R113, steps 1 to 3). -/
def State.captureTold : State :=
  (s.setChannel c ((s.channel c).captured s.now edge)).notifyEach (hostsIn (s.channel c).subscribers) s.now
    (.capture c edge ((s.channel c).sequence + 1))

theorem State.captureOn_eq : s.captureOn c edge = ((s.captureTold c edge).triggerReflex c).closeGate c := rfl

theorem State.captureTold_touches : OnlyTouches { channels := true, notices := true } s (s.captureTold c edge) :=
  (s.setChannel_touches c _).step (State.notifyEach_touches _ _ _ _)

theorem State.captureTold_tells : Tells s (s.captureTold c edge) fun k =>
    if (s.channel c).subscribers.get k = true then [(s.tb.now, .capture c edge ((s.channel c).sequence + 1))] else [] := by
  refine ⟨(s.captureTold_touches c edge).sessions rfl, fun k => ?_⟩
  have hnodup : (hostsIn (s.channel c).subscribers).Nodup := allHosts_nodup.filter _
  refine Eq.mp (congrArg (Receives s _ k) (if_congr (mem_hostsIn _ k) rfl rfl)) ?_
  exact Receives.append (first := []) (t := s.setChannel c ((s.channel c).captured s.now edge)) (.nothing rfl) rfl
    (Receives.each _ _ hnodup _ _ k)

theorem State.captureTold_reflex (d : ChannelId) : (s.captureTold c edge).reflex d = s.reflex d :=
  congrArg (·[d]) ((s.captureTold_touches c edge).reflexes rfl)

/-- The gate's closing tells nothing and moves nothing but its channel (R113). -/
theorem State.closeGate_silent : (s.closeGate c).notices = s.notices ∧ (s.closeGate c).entries = s.entries ∧
    (s.closeGate c).uses = s.uses ∧ (s.closeGate c).sessions = s.sessions := by
  have h := s.closeGate_touches c
  exact ⟨h.notices rfl, h.entries rfl, h.uses rfl, h.sessions rfl⟩

end Capture

/-! ## The offer of a reflex -/

section Reflex

variable {s : State} {c : ChannelId}

theorem State.triggerReflex_none (h : s.reflex c = none) : s.triggerReflex c = s := by
  rw [State.triggerReflex, h]

theorem State.triggerReflex_refused {r : Reflex} {st : Status} (h : s.reflex c = some r)
    (hfails : s.offerFails (s.reflexOffer c r) = some st) : s.triggerReflex c = s.notify r.owner (.reflexLost c st) := by
  rw [State.triggerReflex, h]
  simp only [State.insert_refused hfails]

theorem State.triggerReflex_joins {r : Reflex} (h : s.reflex c = some r) (hpass : (s.reflexOffer c r).Passes s) :
    ∃ i, (∀ e ∈ s.entries, e.handle.slot ≠ i) ∧ (∀ j, j < i → ∃ e ∈ s.entries, e.handle.slot = j) ∧
      s.triggerReflex c =
        s.setEntries (placeEntry s.tb.now.frame (s.entryOf (s.reflexOffer c r) i) s.entries) := by
  obtain ⟨i, hfree, hlow, hinsert⟩ := State.insert_passes hpass
  refine ⟨i, hfree, hlow, ?_⟩
  rw [State.triggerReflex, h]
  simp only [hinsert]

variable {r : Reflex} (hrange : TimebaseInRange s) (hdelay : 1 ≤ r.delay) (hmode : s.tb.mode = .running)
  (hline : ∀ l, r.deed.deed.line = some l →
    (s.claim l).holders.get r.owner = true ∧ ((s.claim l).state = .shared → r.deed.deed.action ≠ .toggle))

include hrange

/-- An entry offered by a reflex fits its due frame, and is due later than now (R127). -/
theorem State.reflexOffer_fits : (s.reflexOffer c r).phase < s.tb.governing (s.reflexOffer c r).ahead := by
  obtain ⟨hzero, hlater, -⟩ := reflexDueTimeCountsTheDelay s c r hrange
  cases hahead : (s.reflexOffer c r).ahead with
  | zero => exact (hzero hahead).2
  | succ k => exact (hlater k hahead).2

include hdelay

theorem State.reflexOffer_late : s.offerLate (s.reflexOffer c r) = false := by
  obtain ⟨hzero, -⟩ := reflexDueTimeCountsTheDelay s c r hrange
  refine Bool.eq_false_iff.mpr fun hb => ?_
  rcases (State.offerLate_iff _ _).mp hb with ⟨hahead, hpast⟩ | ⟨horigin, -⟩
  · have := (hzero hahead).1
    omega
  · cases horigin

omit hrange hdelay in
theorem ReflexDeed.rearms (d : ReflexDeed) : d.deed.rearms = none := by cases d <;> rfl

include hmode hline

/-- The checks that are left for the offer of a reflex whose owner holds its line (R126). -/
theorem State.reflexOffer_fails : s.offerFails (s.reflexOffer c r) =
    if 4095 < (s.reflexOffer c r).ahead then some .tooFar
    else if s.offerCollides (s.reflexOffer c r) then some .collide
    else if 96 ≤ s.entries.length then some .full
    else if 32 ≤ s.ownCount r.owner then some .quota
    else none := by
  have howned : s.ownershipFails (s.reflexOffer c r) = none :=
    State.ownershipFails_none _ _ (fun l hl => (hline l hl).1) fun d hd => by
      have hnone : (s.reflexOffer c r).deed.rearms = none := r.deed.rearms
      rw [hnone] at hd
      cases hd
  have htoggle : ¬ s.toggleShared (s.reflexOffer c r).deed = true := by
    rw [State.toggleShared_iff]
    rintro ⟨l, hl, hshared⟩
    have hdeed : r.deed.deed = .onLine .toggle l := hl
    exact (hline l (by rw [hdeed]; rfl)).2 hshared (by rw [hdeed]; rfl)
  have hmode' : ¬ s.tb.mode = .refLost := by rw [hmode]; decide
  rw [State.offerFails_owned _ _ howned, if_neg htoggle, if_neg hmode',
    if_neg (ne_true_of_eq_false (State.reflexOffer_late hrange hdelay))]
  refine if_congr Iff.rfl rfl ?_
  rw [if_neg (Nat.not_le_of_lt (State.reflexOffer_fits hrange))]
  rfl

end Reflex

/-- The checks read the timebase, the list and the claims; only a REARM's reads its channel. -/
theorem State.offerFails_standing {s u : State} {o : Offer} (htb : u.tb = s.tb) (hentries : u.entries = s.entries)
    (hclaims : u.claims = s.claims) (hrearms : o.deed.rearms = none) : u.offerFails o = s.offerFails o := by
  have howned : u.ownershipFails o = s.ownershipFails o := by
    unfold State.ownershipFails
    cases hd : o.deed with
    | onLine k l => simp only [State.claim, hclaims]
    | rearm d => rw [hd] at hrearms; cases hrearms
    | mark => rfl
  have htoggle : u.toggleShared o.deed = s.toggleShared o.deed := by
    unfold State.toggleShared
    simp only [State.claim, hclaims]
  have hcollides : u.offerCollides o = s.offerCollides o := by
    unfold State.offerCollides State.collides State.dueOf
    simp only [State.claim, hclaims, hentries, State.now, htb]
  unfold State.offerFails
  rw [howned, htoggle, hcollides, htb, State.offerLate, State.offerLate, State.now, State.now, htb, State.total, State.total, State.ownCount,
    State.ownCount, hentries]

/-! ## A capture and its reflex -/

/-- What a capture tells its subscribers (R113). -/
def captureNews (s : State) (c : ChannelId) (edge : EdgeDir) (k : HostId) : List (Time × NoticeBody) :=
  if (s.channel c).subscribers.get k = true then [(s.tb.now, .capture c edge ((s.channel c).sequence + 1))] else []

section Outcomes

variable {s : State} {c : ChannelId} (edge : EdgeDir)

/-- What stands at a capture but for its reflex's entry. -/
theorem State.captureOn_before {u : State} (hu : (s.captureTold c edge).triggerReflex c = u) :
    (s.captureOn c edge).entries = u.entries ∧ (s.captureOn c edge).uses = u.uses ∧
      ∀ {news}, Tells s u news → Tells s (s.captureOn c edge) news := by
  rw [State.captureOn_eq, hu]
  obtain ⟨hnotices, hentries, huses, hsessions⟩ := u.closeGate_silent c
  exact ⟨hentries, huses, fun h => h.before hsessions hnotices⟩

theorem State.captureOn_unanswered (hnone : s.reflex c = none) :
    (s.captureOn c edge).entries = s.entries ∧ (s.captureOn c edge).uses = s.uses ∧ Tells s (s.captureOn c edge) (captureNews s c edge) := by
  have htouched := s.captureTold_touches c edge
  obtain ⟨hentries, huses, htold⟩ := State.captureOn_before (s := s) edge
    (State.triggerReflex_none ((s.captureTold_reflex c edge c).trans hnone))
  exact ⟨hentries.trans (htouched.entries rfl), huses.trans (htouched.uses rfl), htold (s.captureTold_tells c edge)⟩

theorem State.captureTold_fails (r : Reflex) :
    (s.captureTold c edge).offerFails ((s.captureTold c edge).reflexOffer c r) = s.offerFails (s.reflexOffer c r) := by
  have htouched := s.captureTold_touches c edge
  have hoffer : (s.captureTold c edge).reflexOffer c r = s.reflexOffer c r := by
    rw [State.reflexOffer, State.reflexOffer, htouched.tb rfl]
  rw [hoffer]
  exact State.offerFails_standing (htouched.tb rfl) (htouched.entries rfl) (htouched.claims rfl) r.deed.rearms

variable {r : Reflex} (hr : s.reflex c = some r)

include hr

theorem State.captureOn_lost {st : Status} (hfails : s.offerFails (s.reflexOffer c r) = some st) :
    (s.captureOn c edge).entries = s.entries ∧ (s.captureOn c edge).uses = s.uses ∧
      Tells s (s.captureOn c edge) fun k =>
        captureNews s c edge k ++ if r.owner = k then [(s.tb.now, .reflexLost c st)] else [] := by
  have htouched := s.captureTold_touches c edge
  have htrigger := State.triggerReflex_refused ((s.captureTold_reflex c edge c).trans hr)
    ((State.captureTold_fails edge r).trans hfails)
  obtain ⟨hentries, huses, htold⟩ := State.captureOn_before (s := s) edge htrigger
  have hlost := (s.captureTold c edge).notify_same r.owner (.reflexLost c st)
  refine ⟨hentries.trans (hlost.entries.trans (htouched.entries rfl)), huses.trans (hlost.uses.trans (htouched.uses rfl)), htold ?_⟩
  refine ((s.captureTold_tells c edge).trans (State.notifyAt_tells _ r.owner _ _)).congr fun k => ?_
  rw [State.now, htouched.tb rfl]
  rfl

theorem State.captureOn_joined (hpass : s.offerFails (s.reflexOffer c r) = none) :
    (s.captureOn c edge).uses = s.uses ∧ Tells s (s.captureOn c edge) (captureNews s c edge) ∧
      ∃ i : SlotId, (∀ e ∈ s.entries, e.handle.slot ≠ i) ∧ (∀ j, j < i → ∃ e ∈ s.entries, e.handle.slot = j) ∧
        (s.captureOn c edge).entries = placeEntry s.tb.now.frame (s.entryOf (s.reflexOffer c r) i) s.entries := by
  have htouched := s.captureTold_touches c edge
  obtain ⟨i, hfree, hlow, htrigger⟩ := State.triggerReflex_joins ((s.captureTold_reflex c edge c).trans hr)
    (State.offerFails_none.mp ((State.captureTold_fails edge r).trans hpass))
  obtain ⟨hentries, huses, htold⟩ := State.captureOn_before (s := s) edge htrigger
  have hentry : (s.captureTold c edge).entryOf ((s.captureTold c edge).reflexOffer c r) i = s.entryOf (s.reflexOffer c r) i := by
    unfold State.entryOf State.reflexOffer State.dueOf State.now
    rw [htouched.tb rfl, htouched.uses rfl]
  rw [htouched.entries rfl] at hfree hlow
  rw [State.setEntries_entries, hentry, htouched.entries rfl, htouched.tb rfl] at hentries
  exact ⟨huses.trans (htouched.uses rfl), htold ((s.captureTold_tells c edge).before rfl rfl), i, hfree, hlow, hentries⟩

end Outcomes

/-- Whatever becomes of the reflex's offer, its owner is told of one loss at most, behind the captures. -/
theorem State.captureOn_tells (s : State) (c : ChannelId) (edge : EdgeDir) : ∃ lost : HostId → List (Time × NoticeBody),
    (∀ k, (lost k).length ≤ 1) ∧ Tells s (s.captureOn c edge) fun k => captureNews s c edge k ++ lost k := by
  have hsilent {news} (h : Tells s (s.captureOn c edge) news) : Tells s (s.captureOn c edge) fun k => news k ++ [] :=
    h.congr fun k => List.append_nil _
  cases hr : s.reflex c with
  | none => exact ⟨fun _ => [], fun _ => Nat.zero_le _, hsilent (State.captureOn_unanswered edge hr).2.2⟩
  | some r =>
    cases hfails : s.offerFails (s.reflexOffer c r) with
    | none => exact ⟨fun _ => [], fun _ => Nat.zero_le _, hsilent (State.captureOn_joined edge hr hfails).2.1⟩
    | some st =>
      obtain ⟨-, -, htold⟩ := State.captureOn_lost edge hr hfails
      refine ⟨_, fun k => ?_, htold⟩
      split
      · exact Nat.le_refl 1
      · exact Nat.zero_le 1

theorem captureNews_length (s : State) (c : ChannelId) (edge : EdgeDir) (k : HostId) :
    (captureNews s c edge k).length = if (s.channel c).subscribers.get k then 1 else 0 := by
  rw [captureNews]
  split <;> rfl

theorem State.captureOn_reflexLost {s : State} {c : ChannelId} (edge : EdgeDir) {r : Reflex} {st : Status} (hr : s.reflex c = some r)
    (hfails : s.offerFails (s.reflexOffer c r) = some st) : ReflexLost s (s.captureOn c edge) c r.owner st := by
  obtain ⟨hentries, huses, htold⟩ := State.captureOn_lost edge hr hfails
  refine ⟨hentries, huses, fun k => ?_, fun ho hsub hroom => ?_⟩
  · have hsent := Receives.sent (htold.receives k)
    rw [List.length_append, captureNews_length] at hsent
    by_cases hk : r.owner = k
    · rw [if_pos hk.symm]
      rw [if_pos hk] at hsent
      exact hsent
    · rw [if_neg (Ne.symm hk)]
      rw [if_neg hk] at hsent
      exact hsent
  · have hreceives := htold.receives r.owner
    rw [captureNews, if_pos hsub, if_pos rfl] at hreceives
    exact Receives.found hreceives ho hroom (i := 1) rfl

/-! ## SENSE_EDGE and CAPTURE -/

theorem execSenseEdge_eq (s : State) (c : ChannelId) (level : Level) : exec (.senseEdge c.val level) s = .next (s.driveSense c level) :=
  congrArg Host.Outcome.next (dif_pos c.isLt)

theorem execCapture_eq {s : State} {c : ChannelId} {level : Level} (h : s.capturesNext c level = true) :
    exec (.capture c.val level) s = .next (s.captureEvent c level) :=
  congrArg Host.Outcome.next ((dif_pos c.isLt).trans (if_pos h))

/-- The state in which an edge of a channel with the filter OFF is taken (R110). -/
def State.edged (s : State) (c : ChannelId) (level : Level) : State :=
  s.setChannel c { s.channel c with pin := level, settled := level, filterCount := 0 }

section Driven

variable {s : State} {c : ChannelId} {level : Level}

theorem State.edged_channel (d : ChannelId) : (s.edged c level).channel d =
    if d = c then { s.channel c with pin := level, settled := level, filterCount := 0 } else s.channel d :=
  s.channel_setChannel c d _

variable (hoff : (s.channel c).filter = .off) (hchange : (s.channel c).settled ≠ level)

include hoff hchange

theorem State.driveSense_edge : s.driveSense c level = (s.setChannel c { s.channel c with pin := level }).settleLevel c :=
  if_pos ⟨hoff, hchange⟩

theorem State.driveSense_ignored (h : s.countsEdge c level = false) : s.driveSense c level = s.edged c level := by
  have hpin : (s.setChannel c { s.channel c with pin := level }).channel c = { s.channel c with pin := level } :=
    s.channel_setChannel_same c _
  rw [State.driveSense_edge hoff hchange, State.settleLevel_ignored]
  · rw [State.settling, hpin, State.setChannel_setChannel]
    rfl
  · rw [State.countsEdge, hpin]
    exact h

theorem State.driveSense_counted (h : s.countsEdge c level = true) (hroom : (s.channel c).counter < (s.channel c).prescale) :
    s.driveSense c level = s.setChannel c
      { s.channel c with pin := level, settled := level, filterCount := 0, counter := (s.channel c).counter + 1 } := by
  have hpin : (s.setChannel c { s.channel c with pin := level }).channel c = { s.channel c with pin := level } :=
    s.channel_setChannel_same c _
  rw [State.driveSense_edge hoff hchange, State.settleLevel_counted]
  · rw [hpin, State.setChannel_setChannel]
    rfl
  · rw [State.countsEdge, hpin]
    exact h
  · rw [hpin]
    exact hroom

theorem State.driveSense_captured (h : s.countsEdge c level = true) (hfull : (s.channel c).prescale ≤ (s.channel c).counter) :
    s.driveSense c level = (s.edged c level).captureOn c (dirOf level) := by
  have hpin : (s.setChannel c { s.channel c with pin := level }).channel c = { s.channel c with pin := level } :=
    s.channel_setChannel_same c _
  rw [State.driveSense_edge hoff hchange, State.settleLevel_captured]
  · rw [State.settling, hpin, State.setChannel_setChannel]
    rfl
  · rw [State.countsEdge, hpin]
    exact h
  · rw [hpin]
    exact hfull

end Driven

/-- Settles O53: the edge by its filter and its channel, and the fate of the reflex's offer. -/
theorem senseEdgeIsCountedOrCaptured : Obligations.SenseEdgeIsCountedOrCaptured := by
  intro s c level
  refine ⟨fun hquiet => ?_, fun hoff hchange hidle => ?_, fun hoff hchange hopen hmode hedge => ?_⟩
  · rw [execSenseEdge_eq]
    refine congrArg Host.Outcome.next (if_neg ?_)
    rintro ⟨hoff, hchange⟩
    exact hquiet.elim (fun h => h hoff) hchange
  · rw [execSenseEdge_eq, State.driveSense_ignored hoff hchange]
    · rfl
    · refine Bool.eq_false_iff.mpr fun hb => ?_
      obtain ⟨hqualifies, hopen, hmode⟩ := (State.countsEdge_iff level).mp hb
      rcases hidle with h | h | h
      · exact h hopen
      · exact h hmode
      · exact (ChannelRec.qualifies_iff _ _).mp hqualifies h
  have hcounts : s.countsEdge c level = true :=
    (State.countsEdge_iff level).mpr ⟨(ChannelRec.qualifies_iff_eq _ _).mpr hedge, hopen, hmode⟩
  refine ⟨fun hroom => ?_, fun hfull => ?_⟩
  · rw [execSenseEdge_eq, State.driveSense_counted hoff hchange hcounts hroom]
  have hdriven := State.driveSense_captured hoff hchange hcounts hfull.ge
  have hcaptures : s.capturesNext c level = true := by
    simp only [State.capturesNext, hcounts, ChannelRec.atPrescale, Bool.true_and, Bool.and_eq_true, decide_eq_true_eq, bne_iff_ne]
    exact ⟨hfull.ge, hchange⟩
  have hevent : s.captureEvent c level = s.driveSense c level := by rw [State.captureEvent, hoff]
  have hrec : (s.edged c level).channel c = { s.channel c with pin := level, settled := level, filterCount := 0 } :=
    State.edged_channel c |>.trans (if_pos rfl)
  have htouched := (s.edged c level).captureOn_touches c (dirOf level)
  have hnews (k : HostId) : captureNews (s.edged c level) c (dirOf level) k =
      if (s.channel c).subscribers.get k = true then [(s.tb.now, .capture c (dirOf level) ((s.channel c).sequence + 1))] else [] := by
    rw [captureNews, hrec]
    rfl
  have hchannel (d : ChannelId) := (s.edged c level).captureOn_channel c d (dirOf level)
  refine ⟨(s.edged c level).captureOn c (dirOf level), ?_, ?_, ?_, fun d hd => ?_, htouched.tb rfl, htouched.lines rfl,
    htouched.claims rfl, htouched.reflexes rfl, htouched.sessions rfl, fun k hsub ho hroom => ?held, fun hnone => ?unanswered,
    fun r due hr hrange hdelay hline hdue => ?answered⟩
  · rw [execSenseEdge_eq, hdriven]
  · rw [execCapture_eq hcaptures, hevent, hdriven]
  · rw [hchannel, if_pos rfl, hrec]
    simp only [ChannelRec.capturedWithGate, ChannelRec.captured, hopen]
    rfl
  · rw [hchannel, if_neg hd, State.edged_channel, if_neg hd]
  case held =>
    obtain ⟨lost, hlost, htold⟩ := (s.edged c level).captureOn_tells c (dirOf level)
    have hreceives := htold.receives k
    rw [hnews, if_pos hsub] at hreceives
    have hshort := hlost k
    have hlength : ((s.edged c level).noticeRec k).held.length +
        ([(s.tb.now, NoticeBody.capture c (dirOf level) ((s.channel c).sequence + 1))] ++ lost k).length ≤ Config.queueCapacity := by
      rw [List.length_append, List.length_singleton]
      change (s.noticeRec k).held.length + _ ≤ 32
      omega
    obtain ⟨m, hm, hnumber, hstamp, hbody⟩ := Receives.found hreceives ho hlength (i := 0) rfl
    exact ⟨m, hm, hnumber.trans (BitVec.add_zero _), hstamp, hbody⟩
  case unanswered =>
    obtain ⟨hentries, -, htold⟩ := State.captureOn_unanswered (s := s.edged c level) (dirOf level) hnone
    refine ⟨hentries, fun k => (Receives.sent (htold.receives k)).trans ?_⟩
    rw [captureNews_length, hrec]
    change (if (s.session k).isOpen = true then (s.noticeRec k).nextNumber + _ else (s.noticeRec k).nextNumber) = _
    by_cases ho : (s.session k).isOpen = true
    · by_cases hsub : (s.channel c).subscribers.get k = true
      · rw [if_pos ho, if_pos hsub, if_pos ⟨hsub, ho⟩]
        rfl
      · rw [if_pos ho, if_neg hsub, if_neg fun hb => hsub hb.1]
        exact BitVec.add_zero _
    · rw [if_neg ho, if_neg fun hb => ho hb.2]
  case answered =>
    have hfails := State.reflexOffer_fails (s := s.edged c level) (c := c) hrange hdelay hmode hline
    have hcollides : (s.edged c level).offerCollides ((s.edged c level).reflexOffer c r) = true ↔
        ∃ l, r.deed.deed.line = some l ∧ (s.claim l).refusing = true ∧ ∃ e ∈ s.entries, e.deed.line = some l ∧ e.due = due := by
      rw [hdue]
      exact State.offerCollides_iff (s.edged c level) _
    have hlost {st : Status} (hf : (s.edged c level).offerFails ((s.edged c level).reflexOffer c r) = some st) :
        ReflexLost s ((s.edged c level).captureOn c (dirOf level)) c r.owner st := by
      have hlost := State.captureOn_reflexLost (s := s.edged c level) (dirOf level) hr hf
      rw [ReflexLost, hrec] at hlost
      exact hlost
    refine ⟨fun hfar => hlost (hfails.trans (if_pos hfar)), fun hnear => ?_⟩
    rw [if_neg (show ¬ 4095 < ((s.edged c level).reflexOffer c r).ahead from hnear.not_gt)] at hfails
    refine ⟨fun l hl hshared hrefuse hex => hlost (hfails.trans (if_pos (hcollides.mpr ?_))), fun hfree => ?_⟩
    · exact ⟨l, hl, (ClaimRec.refusing_iff _).mpr ⟨hshared, hrefuse⟩, hex⟩
    have hclear : ¬ (s.edged c level).offerCollides ((s.edged c level).reflexOffer c r) = true := by
      rw [hcollides]
      rintro ⟨l, hl, hrefusing, e, he, heline, hedue⟩
      obtain ⟨hshared, hrefuse⟩ := (ClaimRec.refusing_iff _).mp hrefusing
      exact hfree l hl hshared hrefuse e he heline hedue
    rw [if_neg hclear] at hfails
    refine ⟨fun hall => hlost (hfails.trans (if_pos hall)), fun hroom hown => ?_, fun hroom hown => ?_⟩
    · exact hlost (hfails.trans ((if_neg hroom.not_ge).trans (if_pos hown)))
    obtain ⟨huses, htold, i, hfree, hlow, hentries⟩ := State.captureOn_joined (s := s.edged c level) (dirOf level) hr
      (hfails.trans ((if_neg hroom.not_ge).trans (if_neg hown.not_ge)))
    refine ⟨huses, fun k => ?_, i, hfree, hlow, hentries.trans ?_⟩
    · have hsent := Receives.sent (htold.receives k)
      rw [captureNews_length, hrec] at hsent
      exact hsent
    · rw [hdue]
      rfl

end Sys2Proof.Machine
end

section
/-! The clock: what the REFCLK cycles up to a tick make of the timebase (R31, R32), and the records of a sample (R111). -/

set_option Elab.async false

namespace Sys2Proof.Machine

open Sys2Proof.Safety

/-! ## The cycles up to a tick -/

/-- The record in which a tick is taken: the divider back at 0, and an edge shown to the monitor (R31, R54). -/
def Timebase.atTick (t : Timebase) : Timebase := { t with divider := 0, monitor := { t.monitor with edgeSeen := true } }

section Cycles

variable {t : Timebase} (hrun : t.mode = .running)

include hrun

theorem Timebase.cycled_tick (hdue : t.prescale ≤ t.divider + 1) : t.cycled = t.atTick ∧ t.tickDue = true := by
  have htick : t.tickDue = true := by simp only [Timebase.tickDue, hrun, hdue, decide_true, Bool.and_self]
  refine ⟨?_, htick⟩
  rw [Timebase.cycled, if_pos hrun, if_pos htick]
  rfl

theorem Timebase.cycled_counts (hmore : t.divider + 1 < t.prescale) :
    t.cycled = { t with divider := t.divider + 1, monitor := { t.monitor with edgeSeen := true } } ∧ t.tickDue = false := by
  have htick : t.tickDue = false := by simp only [Timebase.tickDue, hmore.not_ge, decide_false, Bool.and_false]
  refine ⟨?_, htick⟩
  rw [Timebase.cycled, if_pos hrun, if_neg (ne_true_of_eq_false htick)]

/-- The cycles up to and including the one that brings a tick do what the tick does (R31). -/
theorem Timebase.cycles_tick (n : Nat) (hn : t.prescale = t.divider + 1 + n) :
    Timebase.afterCycle^[n + 1] t = t.atTick.afterTick := by
  induction n generalizing t with
  | zero =>
    obtain ⟨hcycled, hdue⟩ := Timebase.cycled_tick hrun hn.le
    rw [Function.iterate_one, Timebase.afterCycle, if_pos hdue, hcycled]
  | succ n ih =>
    obtain ⟨hcycled, hnot⟩ := Timebase.cycled_counts hrun (by omega)
    rw [Function.iterate_succ_apply, Timebase.afterCycle, if_neg (ne_true_of_eq_false hnot), hcycled]
    refine ih ?_ ?_
    · exact hrun
    · dsimp only
      omega

end Cycles

theorem State.runTick_tb {s : State} (hrun : s.tb.mode = .running) (hd : s.tb.divider < s.tb.prescale) :
    s.runTick.tb = s.tb.atTick.afterTick := by
  obtain ⟨n, hn⟩ : ∃ n, s.tb.prescale = s.tb.divider + 1 + n := ⟨_, (Nat.add_sub_cancel' hd).symm⟩
  have hcount : max 1 (s.tb.prescale - s.tb.divider) = n + 1 := by omega
  rw [State.runTick, if_pos hrun, hcount, State.refclkCycles_tb, Timebase.cycles_tick hrun n hn]

/-- Settles O32: the cycles up to the tick, and the tick's own step of the time. -/
theorem tickAdvancesThePhase : Obligations.TickAdvancesThePhase := by
  rintro s hrun ⟨-, -, -, -, hdivider, -⟩ hphase
  have htouched := s.runTick_touches
  refine ⟨s.runTick, rfl, ?_, htouched.claims rfl, htouched.sessions rfl, htouched.ports rfl, htouched.pending⟩
  rw [State.runTick_tb hrun hdivider, Timebase.afterTick, if_neg]
  · rfl
  · rw [Timebase.atLastPhase, decide_eq_true_eq]
    exact hphase.not_ge

/-! ## Samples -/

/-- The record of a channel whose sample completes nothing (R111). -/
def ChannelRec.sampled (r : ChannelRec) : ChannelRec := { r with filterCount := if r.pin = r.settled then 0 else r.filterCount + 1 }

section Sample

variable (r : ChannelRec) (f : Filter)

theorem ChannelRec.completes_iff : r.completes f = true ↔ r.filter = f ∧ r.pin ≠ r.settled ∧ 2 ≤ r.filterCount := by
  simp only [ChannelRec.completes, Bool.and_eq_true, decide_eq_true_eq, bne_iff_ne, and_assoc]

theorem ChannelRec.sample_other {r : ChannelRec} {f : Filter} (h : r.filter ≠ f) : r.sample f = r := if_neg fun hb => h hb.1

theorem ChannelRec.sample_completing {r : ChannelRec} {f : Filter} (h : r.completes f = true) : r.sample f = r :=
  if_neg fun hb => ne_false_of_eq_true h hb.2

theorem ChannelRec.sample_quiet {r : ChannelRec} {f : Filter} (hf : r.filter = f) (h : r.completes f = false) : r.sample f = r.sampled :=
  if_pos ⟨hf, h⟩

/-- A sample by one filter leaves what another sees. -/
theorem ChannelRec.sample_completes {f g : Filter} (hfg : f ≠ g) : (r.sample f).completes g = r.completes g := by
  by_cases hf : r.filter = f
  · have hg : r.filter ≠ g := hf ▸ hfg
    have hkept : (r.sample f).filter = r.filter := by
      unfold ChannelRec.sample
      split <;> rfl
    rw [ChannelRec.completes, ChannelRec.completes, hkept, decide_eq_false hg, Bool.false_and, Bool.false_and, Bool.false_and,
      Bool.false_and]
  · rw [ChannelRec.sample_other hf]

/-- A cycle that is a tick samples every filter that is on (R111). -/
theorem ChannelRec.sample_both (hquiet : r.filter ≠ .off → r.completes r.filter = false) :
    (r.sample .refclk).sample .tick = if r.filter = .off then r else r.sampled := by
  cases hf : r.filter with
  | off =>
    rw [if_pos rfl, ChannelRec.sample_other (r := r) (by rw [hf]; decide), ChannelRec.sample_other (by rw [hf]; decide)]
  | tick =>
    rw [if_neg (by decide), ChannelRec.sample_other (r := r) (by rw [hf]; decide),
      ChannelRec.sample_quiet hf (hf ▸ hquiet (by rw [hf]; decide))]
  | refclk =>
    have hsampled : r.sample .refclk = r.sampled := ChannelRec.sample_quiet hf (hf ▸ hquiet (by rw [hf]; decide))
    have hfilter : r.sampled.filter ≠ .tick := by
      change r.filter ≠ .tick
      rw [hf]
      decide
    rw [if_neg (by decide), hsampled, ChannelRec.sample_other hfilter]

end Sample

theorem State.completing_nil {s : State} {f : Filter} (h : ∀ c, (s.channel c).completes f = false) : s.completing f = [] :=
  List.filter_eq_nil_iff.mpr fun c _ => ne_true_of_eq_false (h c)

theorem State.completing_one {s : State} {f : Filter} {k : ChannelId} (hk : (s.channel k).completes f = true)
    (h : ∀ c, c ≠ k → (s.channel c).completes f = false) : s.completing f = [k] := by
  have hpred : ∀ c ∈ allChannels, (s.channel c).completes f = decide (c = k) := by
    intro c _
    by_cases hc : c = k
    · rw [hc, hk, decide_eq_true rfl]
    · rw [h c hc, decide_eq_false hc]
  have honly : ∀ k : ChannelId, (allChannels.filter fun c => decide (c = k)) = [k] := by decide
  rw [State.completing, List.filter_congr hpred, honly]

theorem State.completing_congr {s u : State} {f : Filter} (h : ∀ c, (u.channel c).completes f = (s.channel c).completes f) :
    u.completing f = s.completing f := List.filter_congr fun c _ => h c

/-! ## Rules applied to every channel or line -/

theorem State.mapChannels_congr {s : State} {f g : ChannelId → ChannelRec → ChannelRec}
    (h : ∀ c, f c (s.channel c) = g c (s.channel c)) : s.mapChannels f = s.mapChannels g := by
  have hrecs : (Vector.ofFn fun c => f c s.channels[c]) = Vector.ofFn fun c => g c s.channels[c] :=
    congrArg Vector.ofFn (funext fun c => h c)
  exact congrArg (fun cs => { s with channels := cs }) hrecs

theorem State.mapChannels_mapChannels (s : State) (f g : ChannelId → ChannelRec → ChannelRec) :
    (s.mapChannels f).mapChannels g = s.mapChannels fun c r => g c (f c r) := by
  have hrecs : (Vector.ofFn fun c => g c (s.mapChannels f).channels[c]) = Vector.ofFn fun c => g c (f c s.channels[c]) :=
    congrArg Vector.ofFn (funext fun c => congrArg (g c) (s.channel_mapChannels f c))
  exact congrArg (fun cs => { s with channels := cs }) hrecs

theorem State.mapLines_congr {s : State} {f g : LineId → OutputRec → OutputRec} (h : ∀ l, f l (s.line l) = g l (s.line l)) :
    s.mapLines f = s.mapLines g := by
  have hrecs : (Vector.ofFn fun l => f l s.lines[l]) = Vector.ofFn fun l => g l s.lines[l] :=
    congrArg Vector.ofFn (funext fun l => h l)
  exact congrArg (fun ls => { s with lines := ls }) hrecs

theorem State.mapLines_same {s : State} {f : LineId → OutputRec → OutputRec} (h : ∀ l, f l (s.line l) = s.line l) :
    s.mapLines f = s := by
  have hrecs : (Vector.ofFn fun l => f l s.lines[l]) = s.lines := by
    refine Vector.ext fun i hi => ?_
    rw [Vector.getElem_ofFn]
    exact h ⟨i, hi⟩
  exact congrArg (fun ls => { s with lines := ls }) hrecs

end Sys2Proof.Machine
end

section
/-! A REFCLK cycle, and the filtered edge that a sample completes (R31, R110 to R114). -/

set_option Elab.async false

namespace Sys2Proof.Machine

open Sys2Proof.Safety

/-! ## The edge of a filtered channel -/

/-- The edge to the level of its line is one that channel `c` counts, and captures (R112). -/
abbrev Captures (s : State) (c : ChannelId) : Prop :=
  (s.channel c).state = .opened ∧ s.tb.mode = .running ∧
    (s.channel c).edge ≠ (if (s.channel c).pin then .falling else .rising) ∧ (s.channel c).prescale ≤ (s.channel c).counter

section Settled

variable {s t u : State} {c : ChannelId} {stamp : Time}

theorem State.settles_counts : s.countsEdge c (s.channel c).pin = true ↔
    (s.channel c).state = .opened ∧ s.tb.mode = .running ∧
      (s.channel c).edge ≠ if (s.channel c).pin then .falling else .rising := by
  rw [State.countsEdge_iff, ChannelRec.qualifies_iff]
  exact ⟨fun ⟨h, ho, hm⟩ => ⟨ho, hm, h⟩, fun ⟨ho, hm, h⟩ => ⟨h, ho, hm⟩⟩

/-- What the edge leaves of the channel, from a state in which the channel and the mode are those of `s` (R110 to R113). -/
theorem edgeSettled_of (hchannel : u.channel c = s.channel c) (hmode : u.tb.mode = s.tb.mode) (hnow : u.tb.now = stamp)
    (ht : t.channel c = (u.settleLevel c).channel c)
    (hcapture : Captures s c → exec (.capture c.val (s.channel c).pin) s = .next t) : EdgeSettled s t c stamp := by
  have hcounts : u.countsEdge c (u.channel c).pin = true ↔ (s.channel c).state = .opened ∧ s.tb.mode = .running ∧
      (s.channel c).edge ≠ if (s.channel c).pin then .falling else .rising := by
    rw [State.settles_counts, hchannel, hmode]
  have hsettling : (u.settling c).channel c = (s.channel c).atPin := by rw [State.settling_channel, hchannel]
  refine ⟨fun hno => ?_, fun hopen hrun hedge => ⟨fun hroom => ?_, fun hfull => ⟨hcapture ⟨hopen, hrun, hedge, hfull.ge⟩, ?_⟩⟩⟩
  · rw [ht, State.settleLevel_ignored]
    · exact hsettling
    · refine Bool.eq_false_iff.mpr fun hb => ?_
      obtain ⟨hopen, hrun, hedge⟩ := hcounts.mp hb
      exact hno.elim (fun h => h hopen) fun h => h.elim (fun h => h hrun) hedge
  · rw [ht, State.settleLevel_counted (hcounts.mpr ⟨hopen, hrun, hedge⟩) (hchannel ▸ hroom), State.channel_setChannel_same, hchannel]
    rfl
  · rw [ht, State.settleLevel_captured (hcounts.mpr ⟨hopen, hrun, hedge⟩) (hchannel ▸ hfull.ge), State.captureOn_channel, if_pos rfl,
      hsettling, hchannel]
    have hstamp : (u.settling c).now = stamp := hnow
    simp only [ChannelRec.capturedWithGate, ChannelRec.captured, ChannelRec.atPin, hopen, hstamp]
    rfl

/-- What the edge of a channel without a reflex tells (R113, R114). -/
theorem State.settleLevel_tells (hr : s.reflex c = none) : Tells s (s.settleLevel c) fun k =>
    if Captures s c ∧ (s.channel c).subscribers.get k = true then
      [(s.tb.now, .capture c (if (s.channel c).pin then .rising else .falling) ((s.channel c).sequence + 1))]
    else [] := by
  by_cases hcounts : s.countsEdge c (s.channel c).pin = true
  · obtain ⟨hopen, hrun, hedge⟩ := State.settles_counts.mp hcounts
    by_cases hfull : (s.channel c).prescale ≤ (s.channel c).counter
    · have hnone : (s.settling c).reflex c = none := hr
      rw [State.settleLevel_captured hcounts hfull]
      refine Tells.congr (Tells.behind (State.captureOn_unanswered (dirOf (s.channel c).pin) hnone).2.2 rfl rfl) fun k => ?_
      rw [captureNews, State.settling_channel]
      exact if_congr (and_iff_right ⟨hopen, hrun, hedge, hfull⟩) rfl rfl
    · rw [State.settleLevel_counted hcounts (Nat.lt_of_not_le hfull)]
      exact Tells.congr (Tells.silent rfl rfl) fun k => if_neg fun hb => hfull hb.1.2.2.2
  · rw [State.settleLevel_ignored (Bool.eq_false_iff.mpr hcounts)]
    refine Tells.congr (Tells.silent rfl rfl) fun k => if_neg ?_
    rintro ⟨⟨hopen, hrun, hedge, -⟩, -⟩
    exact hcounts (State.settles_counts.mpr ⟨hopen, hrun, hedge⟩)

theorem edgeTold_of (htold : Tells s t fun k =>
    if Captures s c ∧ (s.channel c).subscribers.get k = true then
      [(stamp, .capture c (if (s.channel c).pin then .rising else .falling) ((s.channel c).sequence + 1))]
    else []) : EdgeTold s t c stamp := by
  intro k
  refine Eq.mp (congrArg (Receives s t k) (if_congr ?_ rfl rfl)) (htold.receives k)
  simp only [Captures, and_assoc]

end Settled

/-! ## A cycle that is no tick -/

/-- The state of a cycle once the divider has counted and the filters have taken their samples (R31, R111). -/
def State.cycleSampled (s : State) : State := (s.setTb s.tb.cycled).sampleAll .refclk

section Cycle

variable {s : State}

theorem State.cycleSampled_channel (c : ChannelId) : s.cycleSampled.channel c = (s.channel c).sample .refclk :=
  State.channel_mapChannels _ _ c

theorem State.refclkCycle_eq : s.refclkCycle =
    s.cycleSampled.takeAll ((if s.tb.tickDue then [.main] else []) ++ (s.completing .refclk).map .edge) State.takeCycleEvent := rfl

/-- The mode apart, a cycle short of a tick counts (R31). -/
theorem Timebase.cycled_short {t : Timebase} (h : t.mode ≠ .running ∨ t.divider + 1 < t.prescale) :
    t.tickDue = false ∧ t.cycled =
      { t with
        divider := if t.mode = .running then t.divider + 1 else t.divider
        monitor := { t.monitor with edgeSeen := true } } := by
  have htick : t.tickDue = false := by
    rcases h with h | h
    · simp only [Timebase.tickDue, h, decide_false, Bool.false_and]
    · simp only [Timebase.tickDue, h.not_ge, decide_false, Bool.and_false]
  rw [Timebase.cycled, htick, if_neg Bool.false_ne_true]
  exact ⟨rfl, rfl⟩

theorem State.not_completing {c : ChannelId} {f : Filter}
    (h : (s.channel c).filter = f → (s.channel c).pin ≠ (s.channel c).settled → (s.channel c).filterCount < 2) :
    (s.channel c).completes f = false := by
  refine Bool.eq_false_iff.mpr fun hb => ?_
  obtain ⟨hf, hdiff, hcount⟩ := ((s.channel c).completes_iff f).mp hb
  exact (h hf hdiff).not_ge hcount

end Cycle

/-- Settles O37: the cycle that is a tick, and the one that only counts and samples. -/
theorem refclkCycleCountsAndSamples : Obligations.RefclkCycleCountsAndSamples := by
  intro s
  have hexec (hreset : s.resetN = true) : exec .refclkCycle s = .next s.refclkCycle := congrArg Host.Outcome.next (if_pos hreset)
  refine ⟨fun hreset => congrArg Host.Outcome.next (if_neg (ne_true_of_eq_false hreset)), fun hreset hrun hdue => ?_,
    fun hreset hshort => ?_⟩
  · rw [hexec hreset]
    refine congrArg Host.Outcome.next (Eq.symm ((if_pos hrun).trans ?_))
    rw [show max 1 (s.tb.prescale - s.tb.divider) = 1 by omega]
    rfl
  obtain ⟨htick, hcycled⟩ := Timebase.cycled_short hshort
  have hcycle : s.refclkCycle = s.cycleSampled.takeAll ((s.completing .refclk).map .edge) State.takeCycleEvent := by
    rw [State.refclkCycle_eq, htick, if_neg Bool.false_ne_true, List.nil_append]
  refine ⟨fun hquiet => ?_, fun c hf hdiff hcount hothers => ?_⟩
  · rw [hexec hreset, hcycle, State.completing_nil fun c => State.not_completing (hquiet c)]
    refine congrArg Host.Outcome.next ?_
    change (s.setTb s.tb.cycled).mapChannels _ = _
    rw [hcycled]
    refine State.mapChannels_congr fun c => ?_
    by_cases hc : (s.channel c).filter = .refclk
    · exact (ChannelRec.sample_quiet hc (State.not_completing (hquiet c))).trans (if_pos hc).symm
    · exact (ChannelRec.sample_other hc).trans (if_neg hc).symm
  · have hcompletes : (s.channel c).completes .refclk = true := ((s.channel c).completes_iff _).mpr ⟨hf, hdiff, hcount.ge⟩
    have hone : s.completing .refclk = [c] :=
      State.completing_one hcompletes fun k hk => State.not_completing (hothers k hk)
    have hsettled : s.refclkCycle = s.cycleSampled.settleLevel c := by
      rw [hcycle, hone]
      rfl
    have hchannel : s.cycleSampled.channel c = s.channel c := by
      rw [State.cycleSampled_channel, ChannelRec.sample_completing hcompletes]
    have htb : s.cycleSampled.tb = _ := hcycled
    refine ⟨s.refclkCycle, hexec hreset, ?_, edgeSettled_of hchannel (by rw [htb]) (by rw [htb])
      (by rw [hsettled]) fun hcaptures => ?_, fun hr => edgeTold_of ?_⟩
    · rw [hsettled, (s.cycleSampled.settleLevel_touches c).tb rfl]
      exact htb
    · obtain ⟨hopen, hrun, hedge, hfull⟩ := hcaptures
      have hnext : s.capturesNext c (s.channel c).pin = true := by
        simp only [State.capturesNext, State.settles_counts.mpr ⟨hopen, hrun, hedge⟩, ChannelRec.atPrescale, hfull, decide_true,
          Bool.true_and, bne_iff_ne]
        exact Ne.symm hdiff
      rw [execCapture_eq hnext, State.captureEvent, hf]
      exact congrArg Host.Outcome.next (if_pos ⟨rfl, hcompletes⟩)
    · have hnone : s.cycleSampled.reflex c = none := hr
      rw [hsettled]
      refine Tells.congr (Tells.behind (State.settleLevel_tells hnone) rfl rfl) fun k => ?_
      simp only [Captures, hchannel, htb]

end Sys2Proof.Machine
end

section
/-! The entries that fall due or are overtaken: what becomes of the list, the use counts and the lines (R15 to R20, R64). -/

set_option Elab.async false

namespace Sys2Proof.Machine

open Sys2Proof.Safety

/-! ## One entry that leaves its place -/

/-- Entry `e` has left the list, or gone back to it one period later (R2, R17, R18). -/
def Departed (s t : State) (e : Entry) : Prop :=
  (t.entries = (s.leave e).entries ∧ t.uses = (s.leave e).uses) ∨
    ∃ r ∈ e.recurrence, t.entries = placeEntry s.now.frame (e.next r) (s.takeOut e).entries ∧ t.uses = s.uses

theorem State.conclude_departed (s : State) (late : Bool) (e : Entry) : Departed s (s.conclude late e) e :=
  (s.conclude_listed late e).imp_right fun ⟨r, hr, _, _, hentries, huses⟩ => ⟨r, hr, hentries, huses⟩

theorem State.expire_departed (s : State) (e : Entry) : Departed s (s.expire e) e :=
  .inl ⟨(State.notify_same _ _ _).entries, (State.notify_same _ _ _).uses⟩

theorem State.overtakeOne_departed (s : State) (e : Entry) : Departed s (s.overtakeOne e) e := by
  unfold State.overtakeOne
  split
  · exact s.conclude_departed true e
  · exact s.expire_departed e

namespace Departed

variable {s t : State} {e : Entry} (h : Departed s t e) (hn : (s.entries.map fun e => e.handle.slot).Nodup)

include h hn

/-- What the list then holds: entries of other slots, and at most the entry itself, one period later. -/
theorem mem {x : Entry} (hx : x ∈ t.entries) :
    x ∈ s.entries ∧ x.handle.slot ≠ e.handle.slot ∨ ∃ r ∈ e.recurrence, x = e.next r := by
  rcases h with ⟨hentries, -⟩ | ⟨r, hr, hentries, -⟩
  · rw [hentries, s.leave_entries e hn, List.mem_filter, decide_eq_true_eq] at hx
    exact .inl hx
  · rw [hentries, mem_placeEntry, State.takeOut_entries hn, List.mem_filter, decide_eq_true_eq] at hx
    rcases hx with hx | hx
    · exact .inr ⟨r, hr, hx⟩
    · exact .inl hx

theorem others {x : Entry} (hx : x ∈ s.entries) (hne : x.handle.slot ≠ e.handle.slot) : x ∈ t.entries := by
  rcases h with ⟨hentries, -⟩ | ⟨r, -, hentries, -⟩
  · rw [hentries, s.leave_entries e hn, List.mem_filter, decide_eq_true_eq]
    exact ⟨hx, hne⟩
  · rw [hentries, mem_placeEntry, State.takeOut_entries hn, List.mem_filter, decide_eq_true_eq]
    exact .inr ⟨hx, hne⟩

theorem slots : (t.entries.map fun e => e.handle.slot).Nodup := by
  rcases h with ⟨hentries, -⟩ | ⟨r, -, hentries, -⟩
  · rw [hentries, s.leave_entries e hn]
    exact hn.sublist (List.filter_sublist.map _)
  · rw [hentries, ((placeEntry_perm _ _ _).map _).nodup_iff, List.map_cons, List.nodup_cons, State.takeOut_entries hn]
    refine ⟨fun hb => ?_, hn.sublist (List.filter_sublist.map _)⟩
    obtain ⟨x, hx, hslot⟩ := List.mem_map.mp hb
    exact of_decide_eq_true (List.mem_filter.mp hx).2 hslot

variable (he : e ∈ s.entries)

include he

theorem slots_subset {x : Entry} (hx : x ∈ t.entries) : ∃ d ∈ s.entries, d.handle.slot = x.handle.slot := by
  rcases h.mem hn hx with ⟨hxs, -⟩ | ⟨r, -, rfl⟩
  · exact ⟨x, hxs, rfl⟩
  · exact ⟨e, he, rfl⟩

theorem slotsFollow : SlotsFollow s t := by
  intro i
  have hall := h
  rcases h with ⟨hentries, huses⟩ | ⟨r, -, hentries, huses⟩
  · rw [huses, s.leave_uses, hentries, s.leave_entries e hn]
    refine if_congr ⟨?_, ?_⟩ rfl rfl
    · rintro rfl
      exact ⟨⟨e, he, rfl⟩, fun x hx => of_decide_eq_true (List.mem_filter.mp hx).2⟩
    · rintro ⟨⟨x, hx, rfl⟩, hgone⟩
      by_contra hne
      exact hgone x (List.mem_filter.mpr ⟨hx, decide_eq_true hne⟩) rfl
  · rw [huses, if_neg]
    rintro ⟨⟨x, hx, rfl⟩, hgone⟩
    by_cases hslot : x.handle.slot = e.handle.slot
    · refine hgone (e.next r) ?_ hslot.symm
      rw [hentries, mem_placeEntry]
      exact .inl rfl
    · exact hgone x (hall.others hn hx hslot) rfl

end Departed

/-! ## Entries one after another -/

/-- The entries of `gone` have left their places, one after another. -/
structure Fired (s t : State) (gone : List Entry) : Prop where
  slots : (t.entries.map fun e => e.handle.slot).Nodup
  follow : SlotsFollow s t
  subset : ∀ x ∈ t.entries, ∃ d ∈ s.entries, d.handle.slot = x.handle.slot
  left : ∀ x ∈ t.entries, (x ∈ s.entries ∧ x ∉ gone) ∨ ∃ e ∈ gone, ∃ r ∈ e.recurrence, x = e.next r

theorem Fired.of_foldl {take : State → Entry → State} (htake : ∀ u e, Departed u (take u e) e) (gone : List Entry) {s : State}
    (hn : (s.entries.map fun e => e.handle.slot).Nodup) (hslots : (gone.map fun e => e.handle.slot).Nodup)
    (hgone : ∀ e ∈ gone, e ∈ s.entries) : Fired s (gone.foldl take s) gone := by
  induction gone generalizing s with
  | nil => exact ⟨hn, SlotsFollow.same rfl rfl, fun x hx => ⟨x, hx, rfl⟩, fun x hx => .inl ⟨hx, List.not_mem_nil⟩⟩
  | cons e rest ih =>
    rw [List.map_cons, List.nodup_cons] at hslots
    have hstep := htake s e
    have he := hgone e List.mem_cons_self
    have hrest := ih (hstep.slots hn) hslots.2 fun x hx =>
      hstep.others hn (hgone x (List.mem_cons_of_mem e hx)) fun heq => hslots.1 (List.mem_map.mpr ⟨x, hx, heq⟩)
    refine ⟨hrest.slots, SlotsFollow.trans (hstep.slotsFollow hn he) hrest.follow (fun x => hstep.slots_subset hn he) hrest.subset,
      fun x hx => ?_, fun x hx => ?_⟩
    · obtain ⟨d, hd, hslot⟩ := hrest.subset x hx
      obtain ⟨d', hd', hslot'⟩ := hstep.slots_subset hn he hd
      exact ⟨d', hd', hslot'.trans hslot⟩
    · rcases hrest.left x hx with ⟨hxt, hout⟩ | ⟨d, hd, r, hr, rfl⟩
      · rcases hstep.mem hn hxt with ⟨hxs, hne⟩ | ⟨r, hr, rfl⟩
        · refine .inl ⟨hxs, fun hb => ?_⟩
          rcases List.mem_cons.mp hb with rfl | hb
          · exact hne rfl
          · exact hout hb
        · exact .inr ⟨e, List.mem_cons_self, r, hr, rfl⟩
      · exact .inr ⟨d, List.mem_cons_of_mem e hd, r, hr, rfl⟩

/-- An entry that goes back to the list is due in a later frame (R18). -/
theorem Entry.next_frame {e : Entry} {r : Recurrence} (hperiod : 1 ≤ r.period ∧ r.period ≤ 255) : (e.next r).due.frame ≠ e.due.frame := by
  intro hb
  have hlead := leadOf_add (n := r.period) e.due.frame (by omega)
  have hframe : (e.next r).due.frame = e.due.frame + BitVec.ofNat 16 r.period := rfl
  rw [← hframe, hb, (leadOf_eq_zero_iff _ _).mpr rfl] at hlead
  omega

/-! ## Firing groups -/

theorem State.applyGroups_line (s : State) (fires : List Entry) (l : LineId) :
    (s.applyGroups fires).line l = grouped (s.line l) (s.claim l) (groupOn l fires) := by
  refine (s.line_mapLines _ l).trans ?_
  unfold grouped
  cases groupOn l fires with
  | nil => rfl
  | cons k ks => exact (if_neg (List.cons_ne_nil k ks)).symm

theorem State.applyGroups_eq (s : State) (fires : List Entry) :
    s.applyGroups fires = s.mapLines fun l r => grouped r (s.claim l) (groupOn l fires) := by
  refine State.mapLines_congr fun l => ?_
  exact (s.line_mapLines _ l).symm.trans (s.applyGroups_line fires l)

theorem State.applyGroups_nil (s : State) : s.applyGroups [] = s := State.mapLines_same fun _ => rfl

section FireDue

variable (s : State)

theorem State.fireDue_eq : s.fireDue = (dueAt s s.tb.now).foldl (fun t e => t.conclude false e) (s.applyGroups (dueAt s s.tb.now)) := rfl

theorem State.fireDue_nothing (h : dueAt s s.tb.now = []) : s.fireDue = s := by
  rw [State.fireDue_eq, h, State.applyGroups_nil]
  rfl

theorem State.fireDue_fires_touches (u : State) (es : List Entry) :
    OnlyTouches { entries := true, uses := true, notices := true, channels := true } u (es.foldl (fun t e => t.conclude false e) u) :=
  OnlyTouches.foldl (fun t e _ => t.conclude_touches false e) _

theorem State.fireDue_line (l : LineId) : s.fireDue.line l = grouped (s.line l) (s.claim l) (groupOn l (dueAt s s.tb.now)) := by
  rw [State.line, s.fireDue_eq, (State.fireDue_fires_touches _ _).lines rfl]
  exact s.applyGroups_line _ l

theorem State.fireDue_fired (hn : (s.entries.map fun e => e.handle.slot).Nodup) : Fired s s.fireDue (dueAt s s.tb.now) := by
  have hfired : Fired (s.applyGroups (dueAt s s.tb.now)) s.fireDue (dueAt s s.tb.now) :=
    Fired.of_foldl (fun u e => u.conclude_departed false e) _ hn (hn.sublist (List.filter_sublist.map _)) fun e he =>
      List.mem_of_mem_filter he
  exact ⟨hfired.slots, SlotsFollow.congr hfired.follow rfl rfl rfl rfl, hfired.subset, hfired.left⟩

/-- Behind the firing of the entries due now none is due now (R15). -/
theorem State.fireDue_none (hn : (s.entries.map fun e => e.handle.slot).Nodup) (hr : RecurrencesInRange s) :
    ∀ e ∈ s.fireDue.entries, e.due ≠ s.tb.now := by
  intro x hx hdue
  rcases (s.fireDue_fired hn).left x hx with ⟨hxs, hout⟩ | ⟨e, he, r, hrec, rfl⟩
  · exact hout (List.mem_filter.mpr ⟨hxs, decide_eq_true hdue⟩)
  · obtain ⟨hes, hed⟩ := List.mem_filter.mp he
    refine Entry.next_frame (e := e) (hr e hes r hrec).1 ?_
    rw [hdue, of_decide_eq_true hed]

/-- A channel that no entry due now rearms (R117). -/
theorem State.fireDue_channel {k : ChannelId} (h : ∀ e ∈ s.entries, e.due = s.tb.now → e.deed.rearms ≠ some k) :
    s.fireDue.channel k = s.channel k := by
  rw [s.fireDue_eq]
  refine (foldl_keeps (fun u : State => u.channel k) _ _ (fun u e he => ?_) _).trans rfl
  obtain ⟨hes, hdue⟩ := List.mem_filter.mp he
  have hne := h e hes (of_decide_eq_true hdue)
  cases hd : e.deed.rearms with
  | none => exact congrArg (·[k]) (State.conclude_channels false hd)
  | some c =>
    have hother : k ≠ c := by
      rintro rfl
      exact hne hd
    exact State.conclude_channel_ne false hd hother

end FireDue

end Sys2Proof.Machine
end

section
/-! A tick one REFCLK cycle away: the time, the samples, the pulses and the entries due (R31, R32, R71, R111). -/

set_option Elab.async false

namespace Sys2Proof.Machine

open Sys2Proof.Safety

/-! ## The state in which a tick's events are taken -/

/-- The state of a tick once the time has advanced and the filters have taken their samples (R32, R111). -/
def State.tickSampled (s : State) : State := (s.setTb s.tb.ticked).sampleAll .tick

theorem State.tick_eq (s : State) :
    s.tick = s.tickSampled.takeAll (.main :: (s.completing .tick).map .edge) (State.takeTickEvent s.tb.tickReport) := rfl

/-- The state in which the events of the tick are taken that is one REFCLK cycle away. -/
def State.ticking (s : State) : State := s.cycleSampled.tickSampled

/-- No filter but a TICK filter completes an edge at the tick. -/
abbrev RefclkQuiet (s : State) : Prop := ∀ c, (s.channel c).completes .refclk = false

section Near

variable {s : State} (hrun : s.tb.mode = .running) (hnear : s.tb.prescale ≤ s.tb.divider + 1)

include hrun hnear

theorem State.runTick_near : s.runTick = s.refclkCycle := by
  rw [State.runTick, if_pos hrun, show max 1 (s.tb.prescale - s.tb.divider) = 1 by omega]
  rfl

theorem State.cycleSampled_tb : s.cycleSampled.tb = s.tb.atTick := (Timebase.cycled_tick hrun hnear).1

theorem State.ticking_tb : s.ticking.tb = s.tb.atTick.ticked := by
  change s.cycleSampled.tb.ticked = _
  rw [State.cycleSampled_tb hrun hnear]

theorem State.runTick_near_tb : s.runTick.tb = s.tb.atTick.afterTick := by
  obtain ⟨hcycled, hdue⟩ := Timebase.cycled_tick hrun hnear
  rw [State.runTick_near hrun hnear, State.refclkCycle_tb, Timebase.afterCycle, if_pos hdue, hcycled]

/-- The tick that is one REFCLK cycle away, no REFCLK filter completing an edge at it (R31, R32). -/
theorem State.runTick_ticking (hquiet : RefclkQuiet s) : s.runTick =
    s.ticking.takeAll (.main :: (s.completing .tick).map .edge) (State.takeTickEvent s.tb.atTick.tickReport) := by
  have htick : s.tb.tickDue = true := (Timebase.cycled_tick hrun hnear).2
  have hcompleting : s.cycleSampled.completing .tick = s.completing .tick :=
    State.completing_congr fun c => by
      rw [State.cycleSampled_channel]
      exact ChannelRec.sample_completes (s.channel c) (by decide)
  rw [State.runTick_near hrun hnear, State.refclkCycle_eq, htick, if_pos rfl, State.completing_nil hquiet]
  rw [List.map_nil, List.append_nil, State.takeAll_singleton, State.takeCycleEvent, State.tick_eq, hcompleting,
    State.cycleSampled_tb hrun hnear, State.ticking]

end Near

theorem State.ticking_channel (s : State) (c : ChannelId) :
    s.ticking.channel c = ((s.channel c).sample .refclk).sample .tick := by
  refine (State.channel_mapChannels _ _ c).trans ?_
  exact congrArg (·.sample .tick) (s.cycleSampled_channel c)

theorem pulseTicked_eq (r : OutputRec) : pulseTicked r = r.countDown := by
  unfold pulseTicked OutputRec.countDown
  cases r.pulse <;> rfl

theorem State.claimedLines_line (s : State) (f : OutputRec → OutputRec) (l : LineId) :
    (s.claimedLines f).line l = if (s.claim l).state = .free then s.line l else f (s.line l) := s.line_mapLines _ l

theorem Timebase.ticked_early {t : Timebase} (h : t.now.phase + 1 < t.length) :
    t.atTick.ticked =
        { t with now := ⟨t.now.frame, t.now.phase + 1⟩, divider := 0, monitor := { t.monitor with edgeSeen := true } } ∧
      t.atTick.tickReport = none := by
  have hnot : t.atTick.atLastPhase = false := decide_eq_false h.not_ge
  rw [Timebase.ticked, Timebase.tickReport, hnot]
  exact ⟨rfl, rfl⟩

theorem State.setTb_mapChannels (s : State) (a b : Timebase) (f : ChannelId → ChannelRec → ChannelRec) :
    ((s.setTb a).mapChannels f).setTb b = (s.setTb b).mapChannels f := rfl

/-! ## A tick at which no filter completes an edge -/

section Quiet

variable {s : State}

/-- The state of a quiet tick, its pulses counted, as the statements write it (R32, R71, R111). -/
theorem State.ticking_counted (hquiet : ∀ k, (s.channel k).filter ≠ .off → (s.channel k).pin ≠ (s.channel k).settled →
      (s.channel k).filterCount < 2) (t : Timebase) (htb : s.ticking.tb = t) :
    s.ticking.countPulses =
      ((s.setTb t).mapChannels fun _ r =>
          if r.filter = .off then r else { r with filterCount := if r.pin = r.settled then 0 else r.filterCount + 1 }).mapLines
        fun l r => if (s.claim l).state = .free then r else pulseTicked r := by
  have hchannels : s.ticking = (s.setTb t).mapChannels fun _ r => if r.filter = .off then r else r.sampled := by
    have hlast : s.cycleSampled.tb.ticked = t := htb
    rw [State.ticking, State.tickSampled, hlast, State.cycleSampled, State.sampleAll, State.sampleAll, State.setTb_mapChannels,
      State.mapChannels_mapChannels]
    refine State.mapChannels_congr fun c => ?_
    refine ChannelRec.sample_both (s.channel c) fun hon => Bool.eq_false_iff.mpr fun hb => ?_
    obtain ⟨-, hdiff, hcount⟩ := (ChannelRec.completes_iff _ _).mp hb
    exact (hquiet c hon hdiff).not_ge hcount
  have hclaim (l : LineId) : s.ticking.claim l = s.claim l := rfl
  rw [State.countPulses, State.claimedLines]
  simp only [hclaim, ← pulseTicked_eq]
  rw [hchannels]
  rfl

theorem quiet_completes (hquiet : ∀ k, (s.channel k).filter ≠ .off → (s.channel k).pin ≠ (s.channel k).settled →
      (s.channel k).filterCount < 2) {f : Filter} (hf : f ≠ .off) (c : ChannelId) : (s.channel c).completes f = false :=
  State.not_completing fun h => hquiet c (h ▸ hf)

/-- A quiet tick takes no edge. -/
theorem State.runTick_quiet (hrun : s.tb.mode = .running) (hnear : s.tb.prescale ≤ s.tb.divider + 1)
    (hquiet : ∀ k, (s.channel k).filter ≠ .off → (s.channel k).pin ≠ (s.channel k).settled → (s.channel k).filterCount < 2) :
    s.runTick = s.ticking.tickEffects s.tb.atTick.tickReport := by
  rw [State.runTick_ticking hrun hnear (quiet_completes hquiet (by decide)), State.completing_nil (quiet_completes hquiet (by decide))]
  rfl

end Quiet

/-! ## What an edge leaves alone -/

/-- An offer that passes its checks is due later than now (R10). -/
theorem Offer.Passes.due_ne {s : State} {o : Offer} (h : o.Passes s) : s.dueOf o ≠ s.tb.now := by
  intro hdue
  have hlead := s.leadOf_dueOf h.horizon
  rw [hdue] at hlead
  have hzero : o.ahead = 0 := hlead.symm.trans ((leadOf_eq_zero_iff _ _).mpr rfl)
  have hphase : o.phase = s.tb.now.phase := congrArg Time.phase hdue
  exact ne_true_of_eq_false h.later ((State.offerLate_iff s o).mpr (.inl ⟨hzero, hphase.le⟩))

section Settle

variable {s : State} {c : ChannelId}

theorem State.settleLevel_channel_ne {d : ChannelId} (hd : d ≠ c) : (s.settleLevel c).channel d = s.channel d := by
  have hsettling : (s.settling c).channel d = s.channel d := (s.channel_setChannel c d _).trans (if_neg hd)
  by_cases hcounts : s.countsEdge c (s.channel c).pin = true
  · by_cases hfull : (s.channel c).prescale ≤ (s.channel c).counter
    · rw [State.settleLevel_captured hcounts hfull, State.captureOn_channel, if_neg hd, hsettling]
    · rw [State.settleLevel_counted hcounts (Nat.lt_of_not_le hfull), State.channel_setChannel, if_neg hd]
  · rw [State.settleLevel_ignored (Bool.eq_false_iff.mpr hcounts), hsettling]

/-- An edge changes the list at most by the entry of a reflex. -/
theorem State.settleLevel_schedule : ((s.settleLevel c).entries = s.entries ∧ (s.settleLevel c).uses = s.uses) ∨
    ∃ r i, s.reflex c = some r ∧ (s.reflexOffer c r).Passes s ∧
      (s.settleLevel c).entries = placeEntry s.tb.now.frame (s.entryOf (s.reflexOffer c r) i) s.entries := by
  by_cases hcounts : s.countsEdge c (s.channel c).pin = true
  · by_cases hfull : (s.channel c).prescale ≤ (s.channel c).counter
    · rw [State.settleLevel_captured hcounts hfull]
      cases hr : s.reflex c with
      | none =>
        obtain ⟨hentries, huses, -⟩ := State.captureOn_unanswered (s := s.settling c) (dirOf (s.channel c).pin) hr
        exact .inl ⟨hentries, huses⟩
      | some r =>
        have hstanding : (s.settling c).offerFails (s.reflexOffer c r) = s.offerFails (s.reflexOffer c r) :=
          State.offerFails_standing rfl rfl rfl r.deed.rearms
        cases hfails : (s.settling c).offerFails ((s.settling c).reflexOffer c r) with
        | some st =>
          obtain ⟨hentries, huses, -⟩ := State.captureOn_lost (s := s.settling c) (dirOf (s.channel c).pin) hr hfails
          exact .inl ⟨hentries, huses⟩
        | none =>
          obtain ⟨-, -, i, -, -, hentries⟩ := State.captureOn_joined (s := s.settling c) (dirOf (s.channel c).pin) hr hfails
          exact .inr ⟨r, i, rfl, State.offerFails_none.mp (hstanding.symm.trans hfails), hentries⟩
    · rw [State.settleLevel_counted hcounts (Nat.lt_of_not_le hfull)]
      exact .inl ⟨rfl, rfl⟩
  · rw [State.settleLevel_ignored (Bool.eq_false_iff.mpr hcounts)]
    exact .inl ⟨rfl, rfl⟩

theorem State.settleLevel_unanswered (hr : s.reflex c = none) :
    (s.settleLevel c).entries = s.entries ∧ (s.settleLevel c).uses = s.uses := by
  rcases s.settleLevel_schedule (c := c) with h | ⟨r, i, hsome, -⟩
  · exact h
  · exact absurd (hr.symm.trans hsome) nofun

/-- The entry that an edge may bring is not due now, and rearms nothing. -/
theorem State.mem_settleLevel {x : Entry} (hx : x ∈ (s.settleLevel c).entries) :
    x ∈ s.entries ∨ x.due ≠ s.tb.now ∧ x.deed.rearms = none := by
  rcases s.settleLevel_schedule (c := c) with ⟨hentries, -⟩ | ⟨r, i, -, hpass, hentries⟩
  · exact .inl (hentries ▸ hx)
  · rw [hentries, mem_placeEntry] at hx
    rcases hx with rfl | hx
    · exact .inr ⟨hpass.due_ne, r.deed.rearms⟩
    · exact .inl hx

end Settle

/-- Two events with no order between them, one way round or the other. -/
theorem State.takeAll_pair {α : Type} (s : State) (x y : α) (take : State → α → State) : ∃ n,
    s.takeAll [x, y] take = take (take (s.setChoices n) x) y ∨ s.takeAll [x, y] take = take (take (s.setChoices n) y) x := by
  obtain ⟨n, hn⟩ := s.inOrder_state [x, y]
  refine ⟨n, ?_⟩
  rw [State.takeAll, hn]
  rcases List.perm_pair.mp (s.inOrder_perm [x, y]) with h | h <;> rw [h]
  · exact .inl rfl
  · exact .inr rfl

/-! ## A tick at which one TICK filter completes an edge -/

section Completing

variable {s : State} {k : ChannelId}

theorem State.tickEffects_channel (u : State) (h : ∀ e ∈ u.entries, e.due = u.tb.now → e.deed.rearms ≠ some k) :
    (u.tickEffects none).channel k = u.channel k := u.countPulses.fireDue_channel h

theorem State.tickEffects_nothing {u : State} (h : dueAt u u.tb.now = []) : u.tickEffects none = u.countPulses :=
  u.countPulses.fireDue_nothing h

theorem dueAt_settleLevel {u : State} (h : dueAt u u.tb.now = []) :
    dueAt (u.settleLevel k) (u.settleLevel k).tb.now = [] := by
  rw [(u.settleLevel_touches k).tb rfl]
  refine List.filter_eq_nil_iff.mpr fun x hx hdue => ?_
  rcases State.mem_settleLevel hx with hin | ⟨hne, -⟩
  · exact List.filter_eq_nil_iff.mp h x hin hdue
  · exact hne (of_decide_eq_true hdue)

/-- What the two events of the tick leave, in either order, where no entry is due (R189). -/
structure Settling (v t : State) (k : ChannelId) : Prop where
  line : ∀ l, t.line l = if (v.claim l).state = .free then v.line l else pulseTicked (v.line l)
  others : ∀ d, d ≠ k → t.channel d = v.channel d
  schedule : v.reflex k = none → t.entries = v.entries ∧ t.uses = v.uses
  told : v.reflex k = none → Tells v t fun h =>
    if Captures v k ∧ (v.channel k).subscribers.get h = true then
      [(v.tb.now, .capture k (if (v.channel k).pin then .rising else .falling) ((v.channel k).sequence + 1))]
    else []

theorem State.countPulses_line (v : State) (l : LineId) :
    v.countPulses.line l = if (v.claim l).state = .free then v.line l else pulseTicked (v.line l) := by
  rw [pulseTicked_eq]
  exact v.claimedLines_line _ l

theorem settling_pulsesFirst (v : State) : Settling v (v.countPulses.settleLevel k) k where
  line l := by
    rw [State.line, (v.countPulses.settleLevel_touches k).lines rfl]
    exact v.countPulses_line l
  others _ hd := State.settleLevel_channel_ne hd
  schedule hr := State.settleLevel_unanswered (s := v.countPulses) hr
  told hr := (State.settleLevel_tells (s := v.countPulses) hr).behind rfl rfl

theorem settling_edgeFirst (v : State) : Settling v (v.settleLevel k).countPulses k where
  line l := by
    have htouched := v.settleLevel_touches k
    rw [State.countPulses_line, State.claim, State.line, htouched.claims rfl, htouched.lines rfl]
  others _ hd := State.settleLevel_channel_ne (s := v) hd
  schedule hr := State.settleLevel_unanswered (s := v) hr
  told hr := (State.settleLevel_tells (s := v) hr).before rfl rfl

theorem State.ticking_channel_same (hk : (s.channel k).completes .tick = true) : s.ticking.channel k = s.channel k := by
  have hfilter : (s.channel k).filter = .tick := ((s.channel k).completes_iff _).mp hk |>.1
  rw [State.ticking_channel, ChannelRec.sample_other (r := s.channel k) (by rw [hfilter]; decide), ChannelRec.sample_completing hk]

theorem State.ticking_channel_quiet (hquiet : (s.channel k).filter ≠ .off → (s.channel k).pin ≠ (s.channel k).settled →
      (s.channel k).filterCount < 2) : s.ticking.channel k =
    if (s.channel k).filter = .off then s.channel k else (s.channel k).sampled := by
  rw [State.ticking_channel]
  exact ChannelRec.sample_both (s.channel k) fun hon => State.not_completing fun _ => hquiet hon

/-- The choice taken for the order is not seen. -/
theorem Settling.chosen {v t : State} {n : Nat} (h : Settling (v.setChoices n) t k) : Settling v t k :=
  ⟨h.line, h.others, h.schedule, fun hr => (h.told hr).behind rfl rfl⟩

theorem State.ticking_touches (s : State) : OnlyTouches { tb := true, channels := true } s s.ticking :=
  ((s.setTb_touches _).step (State.sampleAll_touches _ .refclk) (k := { tb := true, channels := true })).trans
    ((State.setTb_touches _ _).step (State.sampleAll_touches _ .tick))

variable (hrun : s.tb.mode = .running) (hnear : s.tb.prescale ≤ s.tb.divider + 1) (hphase : s.tb.now.phase + 1 < s.tb.length)
  (hk : (s.channel k).completes .tick = true)
  (hothers : ∀ d : ChannelId, d ≠ k → (s.channel d).filter ≠ .off → (s.channel d).pin ≠ (s.channel d).settled →
    (s.channel d).filterCount < 2)

include hrun hnear hphase hk hothers

/-- The tick takes the edge before what it causes, or behind it (R117, R189). -/
theorem State.runTick_completing : ∃ n,
    s.runTick = ((s.ticking.setChoices n).tickEffects none).settleLevel k ∨
      s.runTick = ((s.ticking.setChoices n).settleLevel k).tickEffects none := by
  have hfilter : (s.channel k).filter = .tick := ((s.channel k).completes_iff _).mp hk |>.1
  have hquiet : RefclkQuiet s := by
    intro d
    refine State.not_completing fun hf => ?_
    by_cases hd : d = k
    · rw [hd, hfilter] at hf
      cases hf
    · exact hothers d hd (by rw [hf]; decide)
  have hone : s.completing .tick = [k] :=
    State.completing_one hk fun d hd => State.not_completing fun hf => hothers d hd (by rw [hf]; decide)
  rw [State.runTick_ticking hrun hnear hquiet, hone, (Timebase.ticked_early hphase).2]
  exact State.takeAll_pair _ _ _ _

/-- The edge of the channel, whichever way round (R110 to R113). -/
theorem State.runTick_settles {next : Time} (hnext : next = ⟨s.tb.now.frame, s.tb.now.phase + 1⟩)
    (hrearm : ∀ e ∈ s.entries, e.due = next → e.deed.rearms ≠ some k) : EdgeSettled s s.runTick k next := by
  obtain ⟨hfilter, hdiff, -⟩ := ((s.channel k).completes_iff _).mp hk
  have htb : s.ticking.tb = _ := (State.ticking_tb hrun hnear).trans (Timebase.ticked_early hphase).1
  have hchannel := State.ticking_channel_same hk
  have hcapture (hcaptures : Captures s k) : exec (.capture k.val (s.channel k).pin) s = .next s.runTick := by
    obtain ⟨hopen, -, hedge, hfull⟩ := hcaptures
    have hcaptures : s.capturesNext k (s.channel k).pin = true := by
      simp only [State.capturesNext, State.settles_counts.mpr ⟨hopen, hrun, hedge⟩, ChannelRec.atPrescale, hfull, decide_true,
        Bool.true_and, bne_iff_ne]
      exact Ne.symm hdiff
    rw [execCapture_eq hcaptures, State.captureEvent, hfilter]
    exact congrArg Host.Outcome.next (if_pos ⟨rfl, hk⟩)
  have hdue : s.ticking.tb.now = next := by rw [htb, hnext]
  have hmode : s.ticking.tb.mode = s.tb.mode := by rw [htb]
  obtain ⟨n, heq | heq⟩ := State.runTick_completing hrun hnear hphase hk hothers
  · have heffects := (s.ticking.setChoices n).tickEffects_touches none
    have hstands : ((s.ticking.setChoices n).tickEffects none).channel k = s.channel k :=
      ((s.ticking.setChoices n).tickEffects_channel fun e he hd => hrearm e he (hd.trans hdue)).trans hchannel
    have hsame : ((s.ticking.setChoices n).tickEffects none).tb = s.ticking.tb := by rw [State.tickEffects_tb]; rfl
    exact edgeSettled_of hstands (by rw [hsame, hmode]) (by rw [hsame, hdue]) (by rw [heq]) hcapture
  · refine edgeSettled_of (u := s.ticking.setChoices n) hchannel hmode hdue ?_ hcapture
    rw [heq]
    refine State.tickEffects_channel _ fun e he hd => ?_
    rw [((s.ticking.setChoices n).settleLevel_touches k).tb rfl] at hd
    rcases State.mem_settleLevel he with hin | ⟨-, hnone⟩
    · exact hrearm e hin (hd.trans hdue)
    · rw [hnone]
      exact nofun

/-- Where no entry is due, the pulses and the edge are all. -/
theorem State.runTick_settling (hdue : dueAt s ⟨s.tb.now.frame, s.tb.now.phase + 1⟩ = []) :
    Settling s.ticking s.runTick k := by
  have htb : s.ticking.tb = _ := (State.ticking_tb hrun hnear).trans (Timebase.ticked_early hphase).1
  obtain ⟨n, heq | heq⟩ := State.runTick_completing hrun hnear hphase hk hothers
  all_goals
    refine Settling.chosen (n := n) ?_
    have hnothing : dueAt (s.ticking.setChoices n) (s.ticking.setChoices n).tb.now = [] := by
      change dueAt s s.ticking.tb.now = []
      rw [htb]
      exact hdue
    rw [heq]
  · rw [State.tickEffects_nothing hnothing]
    exact settling_pulsesFirst _
  · rw [State.tickEffects_nothing (dueAt_settleLevel hnothing)]
    exact settling_edgeFirst _

end Completing

/-- Settles O33: the tick with one completed edge, and the quiet one. -/
theorem quietTickCountsPulsesAndSamples : Obligations.QuietTickCountsPulsesAndSamples := by
  refine ⟨fun s k next hrun hnear hphase hnext hfilter hdiff hcount hothers => ?_,
    fun s c quiet due hrun hnear hphase hquiet hc hquieteq hdue => ?_⟩
  · have hk : (s.channel k).completes .tick = true := ((s.channel k).completes_iff _).mpr ⟨hfilter, hdiff, hcount.ge⟩
    have htouched := s.runTick_touches
    obtain ⟨hticked, hreport⟩ := Timebase.ticked_early hphase
    have htb : s.ticking.tb = _ := (State.ticking_tb hrun hnear).trans hticked
    refine ⟨s.runTick, rfl, ?_, htouched.claims rfl, htouched.sessions rfl, htouched.ports rfl, htouched.pending,
      State.runTick_settles hrun hnear hphase hk hothers hnext, fun hnone => ?_⟩
    · rw [State.runTick_near_tb hrun hnear, Timebase.afterTick, if_neg, hnext]
      · rfl
      · exact ne_true_of_eq_false (decide_eq_false hphase.not_ge)
    · rw [hnext] at hnone
      have hsettling := State.runTick_settling hrun hnear hphase hk hothers hnone
      have hstands := s.ticking_touches
      have hchannel : s.ticking.channel k = s.channel k := State.ticking_channel_same hk
      refine ⟨fun l => ?_, fun d hd => ?_, fun hr => ?_⟩
      · rw [hsettling.line, State.claim, State.line, hstands.claims rfl, hstands.lines rfl]
      · exact (hsettling.others d hd).trans (State.ticking_channel_quiet (hothers d hd))
      · have hnoreflex : s.ticking.reflex k = none := by
          rw [State.reflex, hstands.reflexes rfl]
          exact hr
        obtain ⟨hentries, huses⟩ := hsettling.schedule hnoreflex
        have htold := (hsettling.told hnoreflex).behind (hstands.sessions rfl) (hstands.notices rfl)
        refine ⟨hentries.trans (hstands.entries rfl), huses.trans (hstands.uses rfl), edgeTold_of (htold.congr fun h => ?_)⟩
        simp only [Captures, hchannel, htb, hnext]
  · have hexec : exec c s = .next s.runTick := by
      rcases hc with rfl | ⟨l, rfl, hpulse, hclaimed⟩
      · rfl
      · exact congrArg Host.Outcome.next ((dif_pos l.isLt).trans (if_pos ⟨hpulse, hclaimed⟩))
    obtain ⟨hticked, hreport⟩ := Timebase.ticked_early hphase
    have hcounted : s.ticking.countPulses = quiet :=
      (State.ticking_counted hquiet _ ((State.ticking_tb hrun hnear).trans hticked)).trans hquieteq.symm
    have htick : s.runTick = quiet.fireDue := by
      rw [State.runTick_quiet hrun hnear hquiet, hreport, ← hcounted]
      rfl
    have hnow : quiet.tb.now = ⟨s.tb.now.frame, s.tb.now.phase + 1⟩ := by rw [hquieteq]; rfl
    have hquietdue : dueAt quiet quiet.tb.now = due := by
      rw [hdue, hnow, hquieteq]
      rfl
    have hclaim (l : LineId) : quiet.claim l = s.claim l := by rw [hquieteq]; rfl
    have hstands : quiet.entries = s.entries ∧ quiet.uses = s.uses := by rw [hquieteq]; exact ⟨rfl, rfl⟩
    have htouched := s.runTick_touches
    have hfire := quiet.fireDue_touches
    refine ⟨fun hnone => ?_, s.runTick, hexec, ?_, fun l => ?_, ?_, htouched.claims rfl, htouched.sessions rfl, htouched.ports rfl,
      htouched.pending, fun hroom hrec => ⟨?_, ?_⟩⟩
    · rw [hexec, htick, quiet.fireDue_nothing (hquietdue.trans hnone)]
    · have hlines : s.runTick.lines = (quiet.applyGroups due).lines := by
        rw [htick, quiet.fireDue_eq, hquietdue, (State.fireDue_fires_touches _ _).lines rfl]
      rw [hlines, htick, quiet.fireDue_eq, hquietdue]
      rfl
    · rw [htick, quiet.fireDue_line, hquietdue, hclaim]
    · rw [htick, hfire.tb rfl]
    · rw [htick]
      refine SlotsFollow.congr (quiet.fireDue_fired (by rw [hstands.1]; exact hroom.1)).follow ?_ hstands.2.symm rfl rfl
      rw [hstands.1]
    · rw [htick, ← hnow]
      refine quiet.fireDue_none (by rw [hstands.1]; exact hroom.1) ?_
      rw [RecurrencesInRange, hstands.1]
      exact hrec

end Sys2Proof.Machine
end

section
/-! Wraps: what follows the beginning of a frame, and the natural wrap (R33, R43, R53, R72, R74, R190). -/

set_option Elab.async false

namespace Sys2Proof.Machine

open Sys2Proof.Safety

/-! ## What follows a wrap -/

/-- The notice of a length that takes effect (R33). -/
def lengthBodies : Option Nat → List NoticeBody
  | none => []
  | some n => [.tbFrame n]

/-- The notice of a halt (R43). -/
def haltBodies : Option TbCause → List NoticeBody
  | none => []
  | some cause => [.tbState .halted cause]

/-- What a wrap tells the holder and the watchers, in its order (R190). -/
def WrapReport.bodies (w : WrapReport) (missCount : Nat) : List NoticeBody :=
  lengthBodies w.newLength ++ (if w.lost then [.syncEvent .lost missCount] else []) ++ haltBodies w.halt

section AfterWrap

variable (s : State) (w : WrapReport)

/-- The wrap's own news are told (R33, R53). -/
def State.wrapTold : State := (s.tellNewLength w.newLength).tellLost w.lost

theorem State.afterWrap_eq : s.afterWrap w = ((s.wrapTold w).frameReturn.fireDue).haltIf w.halt := rfl

theorem State.tellNewLength_touches (n : Option Nat) : OnlyTouches { notices := true } s (s.tellNewLength n) := by
  cases n with
  | none => exact .refl _ s
  | some n => exact s.tellTimebase_touches _ _ _

theorem State.tellLost_touches (lost : Bool) : OnlyTouches { notices := true } s (s.tellLost lost) := by
  unfold State.tellLost
  split
  · exact (s.tellTimebase_touches _ _ _).trans (State.alertAll_touches _)
  · exact .refl _ s

theorem State.wrapTold_touches : OnlyTouches { notices := true } s (s.wrapTold w) :=
  (s.tellNewLength_touches _).trans (State.tellLost_touches _ _)

/-- The state in which the entries due at phase 0 of the new frame fire. -/
theorem State.wrapReturned_touches : OnlyTouches { notices := true, lines := true } s (s.wrapTold w).frameReturn :=
  (s.wrapTold_touches w).step (State.claimedLines_touches _ _)

theorem State.wrapReturned_due : dueAt (s.wrapTold w).frameReturn (s.wrapTold w).frameReturn.tb.now = dueAt s s.tb.now := by
  have h := s.wrapReturned_touches w
  rw [dueAt, h.entries rfl, h.tb rfl]
  rfl

theorem State.afterWrap_line (l : LineId) : (s.afterWrap w).line l =
    grouped (if (s.claim l).state = .free then s.line l else returned (s.line l)) (s.claim l) (groupOn l (dueAt s s.tb.now)) := by
  have htold := s.wrapTold_touches w
  rw [State.line, s.afterWrap_eq, (State.haltIf_touches _ _).lines rfl]
  refine ((s.wrapTold w).frameReturn.fireDue_line l).trans ?_
  rw [s.wrapReturned_due w, State.claim, (s.wrapReturned_touches w).claims rfl, State.frameReturn, State.claimedLines_line, State.claim,
    State.line, htold.claims rfl, htold.lines rfl]
  rfl

theorem State.afterWrap_nothing (h : dueAt s s.tb.now = []) : (s.afterWrap w).entries = s.entries ∧ (s.afterWrap w).uses = s.uses := by
  have hbefore := s.wrapReturned_touches w
  have hafter := (s.wrapTold w).frameReturn.haltIf_touches w.halt
  rw [s.afterWrap_eq, State.fireDue_nothing _ ((s.wrapReturned_due w).trans h)]
  exact ⟨(hafter.entries rfl).trans (hbefore.entries rfl), (hafter.uses rfl).trans (hbefore.uses rfl)⟩

theorem State.afterWrap_fired (hn : (s.entries.map fun e => e.handle.slot).Nodup) : Fired s (s.afterWrap w) (dueAt s s.tb.now) := by
  have hbefore := s.wrapReturned_touches w
  have hafter := (s.wrapTold w).frameReturn.fireDue.haltIf_touches w.halt
  have hfired := (s.wrapTold w).frameReturn.fireDue_fired (by rw [hbefore.entries rfl]; exact hn)
  rw [s.wrapReturned_due w] at hfired
  obtain ⟨hslots, hfollow, hsubset, hleft⟩ := hfired
  have hentries : (s.afterWrap w).entries = (s.wrapTold w).frameReturn.fireDue.entries := hafter.entries rfl
  rw [hbefore.entries rfl] at hsubset hleft
  refine ⟨by rw [hentries]; exact hslots, SlotsFollow.congr hfollow ?_ ?_ (by rw [hentries]) (hafter.uses rfl),
    by rw [hentries]; exact hsubset, by rw [hentries]; exact hleft⟩
  · rw [hbefore.entries rfl]
  · exact (hbefore.uses rfl).symm

/-- Behind a wrap no entry is due at phase 0 of the new frame (R15). -/
theorem State.afterWrap_none (hn : (s.entries.map fun e => e.handle.slot).Nodup) (hr : RecurrencesInRange s) :
    ∀ e ∈ (s.afterWrap w).entries, e.due ≠ s.tb.now := by
  have hbefore := s.wrapReturned_touches w
  have hnone := (s.wrapTold w).frameReturn.fireDue_none (by rw [hbefore.entries rfl]; exact hn)
    (by rw [RecurrencesInRange, hbefore.entries rfl]; exact hr)
  rw [hbefore.tb rfl] at hnone
  have hentries : (s.afterWrap w).entries = (s.wrapTold w).frameReturn.fireDue.entries :=
    (State.haltIf_touches _ w.halt).entries rfl
  rw [hentries]
  exact hnone

theorem State.tellNewLength_tells (n : Option Nat) : Tells s (s.tellNewLength n) fun h =>
    (lengthBodies n).flatMap (timebaseNews s h s.tb.now) := by
  cases n with
  | none => exact .refl s
  | some n => exact (State.tellTimebase_news rfl rfl s.now (.tbFrame n)).congr fun h => List.flatMap_singleton ..

theorem State.haltIf_tells {s u : State} (cause : Option TbCause) (hholder : u.tb.holder = s.tb.holder) (hsessions : u.sessions = s.sessions) :
    Tells u (u.haltIf cause) fun h =>
      (haltBodies cause).flatMap (timebaseNews s h u.tb.now) := by
  cases cause with
  | none => exact .refl u
  | some cause =>
    refine Tells.congr (u.setTb_tellMode_tells (t := { u.tb with mode := .halted, divider := 0, pendingStop := false }) rfl rfl rfl cause)
      fun h => ?_
    have hwatches : u.watches h = s.watches h := by rw [State.watches, State.watches, State.session, State.session, hsessions]
    rw [haltBodies, List.flatMap_singleton, timebaseNews, timebaseNews, hholder, hwatches]

/-- What a wrap tells where no entry is due at phase 0 of the new frame; a lost lock alerts every open host besides (R53, R143). -/
theorem State.afterWrap_tells (h : dueAt s s.tb.now = []) : Tells (if w.lost then s.alertAll else s) (s.afterWrap w) fun k =>
    (w.bodies s.tb.missCount).flatMap (timebaseNews s k s.tb.now) := by
  have hbefore := s.wrapReturned_touches w
  rw [s.afterWrap_eq, State.fireDue_nothing _ ((s.wrapReturned_due w).trans h)]
  have hlast := State.haltIf_tells (s := s) (u := (s.wrapTold w).frameReturn) w.halt (by rw [hbefore.tb rfl]) (hbefore.sessions rfl)
  rw [hbefore.tb rfl] at hlast
  have hreturn : Tells (s.wrapTold w) (s.wrapTold w).frameReturn fun _ => [] :=
    .silent ((State.claimedLines_touches _ _).sessions rfl) ((State.claimedLines_touches _ _).notices rfl)
  have hlength := s.tellNewLength_tells w.newLength
  have hlengthtouched := s.tellNewLength_touches w.newLength
  have hfirst : Tells (if w.lost then s.alertAll else s) (s.wrapTold w) fun k =>
      (lengthBodies w.newLength ++ if w.lost then [NoticeBody.syncEvent .lost s.tb.missCount] else []).flatMap
        (timebaseNews s k s.tb.now) := by
    unfold State.wrapTold State.tellLost
    cases w.lost with
    | false => exact hlength.congr fun k => by rw [if_neg Bool.false_ne_true, List.append_nil]
    | true =>
      have hlost := State.tellTimebase_news (s := s) (u := s.tellNewLength w.newLength) (by rw [hlengthtouched.tb rfl])
        (hlengthtouched.sessions rfl) s.tb.now (.syncEvent .lost s.tb.missCount)
      rw [if_pos rfl, if_pos rfl, State.now, hlengthtouched.tb rfl]
      refine Tells.congr (hlength.trans hlost).alertAll fun k => ?_
      rw [if_pos rfl, List.flatMap_append, List.flatMap_singleton]
  refine ((hfirst.trans hreturn).trans hlast).congr fun k => ?_
  rw [WrapReport.bodies, List.flatMap_append, List.append_nil]

end AfterWrap

end Sys2Proof.Machine
end

section
/-! The natural wrap (R33, R43, R53), and the alert that a lost lock leaves standing. -/

set_option Elab.async false

namespace Sys2Proof.Machine

open Sys2Proof.Safety

/-! ## Alerts that stand -/

/-- Every open host is alerted (R143). -/
def Alerted (s : State) : Prop := ∀ h, (s.session h).isOpen = true → (s.noticeRec h).conditions.tbAlert = true

/-- Only notices have been sent. -/
def Speaks (s t : State) : Prop := ∃ news, Tells s t news

theorem Speaks.silent {s t : State} (hsessions : t.sessions = s.sessions) (hnotices : t.notices = s.notices) : Speaks s t :=
  ⟨_, .silent hsessions hnotices⟩

theorem Speaks.trans {s t u : State} (h : Speaks s t) (k : Speaks t u) : Speaks s u :=
  let ⟨_, hst⟩ := h
  let ⟨_, htu⟩ := k
  ⟨_, hst.trans htu⟩

theorem Speaks.foldl {α : Type} {take : State → α → State} (h : ∀ t x, Speaks t (take t x)) (xs : List α) (s : State) :
    Speaks s (xs.foldl take s) := by
  induction xs generalizing s with
  | nil => exact .silent rfl rfl
  | cons x xs ih => exact (h s x).trans (ih _)

theorem Alerted.speaks {s t : State} (hs : Alerted s) (h : Speaks s t) : Alerted t := by
  obtain ⟨news, htold⟩ := h
  intro k ho
  rw [Receives.tbAlert (htold.receives k)]
  refine hs k ?_
  rw [State.session, ← htold.sessions]
  exact ho

theorem State.alertAll_alerted (s : State) : Alerted s.alertAll := by
  intro k ho
  rw [State.session, s.alertAll_same.sessions] at ho
  rw [s.alertAll_noticeRec, if_pos ho]
  rfl

theorem State.fireDue_speaks (s : State) : Speaks s s.fireDue :=
  (Speaks.silent (s.applyGroups_touches _ |>.sessions rfl) (s.applyGroups_touches _ |>.notices rfl)).trans
    (.foldl (fun t e => ⟨_, t.conclude_tells false e⟩) _ _)

theorem State.settleLevel_speaks (s : State) (c : ChannelId) : Speaks s (s.settleLevel c) := by
  by_cases hcounts : s.countsEdge c (s.channel c).pin = true
  · by_cases hfull : (s.channel c).prescale ≤ (s.channel c).counter
    · rw [State.settleLevel_captured hcounts hfull]
      obtain ⟨lost, -, htold⟩ := (s.settling c).captureOn_tells c (dirOf (s.channel c).pin)
      exact ⟨_, htold.behind rfl rfl⟩
    · rw [State.settleLevel_counted hcounts (Nat.lt_of_not_le hfull)]
      exact .silent rfl rfl
  · rw [State.settleLevel_ignored (Bool.eq_false_iff.mpr hcounts)]
    exact .silent rfl rfl

theorem State.afterWrap_alerted (s : State) {w : WrapReport} (hlost : w.lost = true) : Alerted (s.afterWrap w) := by
  have htold : Alerted (s.wrapTold w) := by
    unfold State.wrapTold State.tellLost
    rw [hlost, if_pos rfl]
    exact State.alertAll_alerted _
  have hreturn : Speaks (s.wrapTold w) (s.wrapTold w).frameReturn :=
    .silent ((State.claimedLines_touches _ _).sessions rfl) ((State.claimedLines_touches _ _).notices rfl)
  rw [s.afterWrap_eq]
  exact htold.speaks ((hreturn.trans (State.fireDue_speaks _)).trans ⟨_, State.haltIf_tells w.halt rfl rfl⟩)

/-- A tick that loses the lock, whatever edges its samples complete (R53). -/
theorem State.tick_alerted (s : State) {w : WrapReport} (hw : s.tb.tickReport = some w) (hlost : w.lost = true) : Alerted s.tick := by
  rw [State.tick_eq, hw]
  refine State.takeAll_turn (fun _ => True) Alerted (State.takeTickEvent (some w)) .main _ (fun _ _ _ => trivial)
    (fun _ _ _ _ _ => trivial) (fun t ht y _ hne => ?_) (fun t _ => t.countPulses.afterWrap_alerted hlost) (count_main _) _ trivial
  cases y with
  | main => exact absurd rfl hne
  | edge c => exact ht.speaks (t.settleLevel_speaks c)

theorem Timebase.atTick_tickReport (t : Timebase) : t.atTick.tickReport = t.tickReport := rfl

/-- The cycles up to a tick that loses the lock (R31, R53). -/
theorem State.refclkCycles_alerted (n : Nat) {s : State} (hrun : s.tb.mode = .running) (hn : s.tb.prescale = s.tb.divider + 1 + n)
    {w : WrapReport} (hw : s.tb.tickReport = some w) (hlost : w.lost = true) : Alerted (s.refclkCycles (n + 1)) := by
  induction n generalizing s with
  | zero =>
    obtain ⟨hcycled, hdue⟩ := Timebase.cycled_tick hrun hn.le
    change Alerted s.refclkCycle
    rw [State.refclkCycle_eq, hdue, if_pos rfl]
    refine State.takeAll_turn (fun t => t.tb = s.tb.atTick) Alerted State.takeCycleEvent .main _ (fun _ _ ht => ht)
      (fun t ht y _ hne => ?_) (fun t ht y _ hne => ?_) (fun t ht => t.tick_alerted (by rw [ht]; exact hw) hlost) (count_main _) _ hcycled
    · cases y with
      | main => exact absurd rfl hne
      | edge c => exact ((t.settleLevel_touches c).tb rfl).trans ht
    · cases y with
      | main => exact absurd rfl hne
      | edge c => exact ht.speaks (t.settleLevel_speaks c)
  | succ n ih =>
    obtain ⟨hcycled, hnot⟩ := Timebase.cycled_counts hrun (by omega)
    have htb : s.refclkCycle.tb = { s.tb with divider := s.tb.divider + 1, monitor := { s.tb.monitor with edgeSeen := true } } := by
      rw [State.refclkCycle_tb, Timebase.afterCycle, if_neg (ne_true_of_eq_false hnot), hcycled]
    refine ih (s := s.refclkCycle) ?_ ?_ ?_
    · rw [htb]
      exact hrun
    · rw [htb]
      dsimp only
      omega
    · rw [htb]
      exact hw

theorem State.runTick_alerted {s : State} (hrun : s.tb.mode = .running) (hd : s.tb.divider < s.tb.prescale) {w : WrapReport}
    (hw : s.tb.tickReport = some w) (hlost : w.lost = true) : Alerted s.runTick := by
  obtain ⟨n, hn⟩ : ∃ n, s.tb.prescale = s.tb.divider + 1 + n := ⟨_, (Nat.add_sub_cancel' hd).symm⟩
  rw [State.runTick, if_pos hrun, show max 1 (s.tb.prescale - s.tb.divider) = n + 1 by omega]
  exact State.refclkCycles_alerted n hrun hn hw hlost

/-! ## The record behind a wrap -/

section Wrapped

variable (t : Timebase) (natural : Bool)

/-- The record behind a wrap and its halt (R33, R43). -/
def Timebase.begun : Timebase := (t.wrapped natural).haltedIf t.haltCause

theorem Timebase.haltedIf_keeps (cause : Option TbCause) :
    (t.haltedIf cause).now = t.now ∧ (t.haltedIf cause).length = t.length ∧ (t.haltedIf cause).staged = t.staged ∧
      (t.haltedIf cause).runLimit = t.runLimit ∧ (t.haltedIf cause).prevMissed = t.prevMissed ∧
      (t.haltedIf cause).missCount = t.missCount ∧ (t.haltedIf cause).lock = t.lock := by
  cases cause <;> exact ⟨rfl, rfl, rfl, rfl, rfl, rfl, rfl⟩

/-- A wrap halts when a stop was pending or the run limit is reached (R43). -/
theorem Timebase.begun_mode (hrun : t.mode = .running) :
    (t.begun natural).pendingStop = false ∧
      (t.begun natural).mode = if t.pendingStop = true ∨ t.runLimit = 1 then .halted else .running := by
  unfold Timebase.begun Timebase.haltCause
  cases hstop : t.pendingStop with
  | true => exact ⟨rfl, (if_pos (.inl rfl)).symm⟩
  | false =>
    by_cases hlimit : t.runLimit = 1
    · rw [if_neg Bool.false_ne_true, if_pos hlimit, if_pos (.inr hlimit)]
      exact ⟨rfl, rfl⟩
    · rw [if_neg Bool.false_ne_true, if_neg hlimit, if_neg (by simp [hlimit])]
      exact ⟨hstop, hrun⟩

end Wrapped

/-- A natural wrap's miss (R53). -/
theorem Timebase.misses_iff (t : Timebase) : t.misses true = true ↔ t.syncMode = .align ∧ t.lock = .locked := by
  simp [Timebase.misses]

theorem Timebase.losesLock_iff {t : Timebase} (hbelow : t.lock ≠ .lost → t.missCount < Config.lostAfter) :
    t.losesLock true = true ↔ t.syncMode = .align ∧ t.lock = .locked ∧ t.missCount = 2 := by
  rw [Timebase.losesLock, Bool.and_eq_true, t.misses_iff, decide_eq_true_eq, and_assoc]
  refine and_congr_right fun _ => and_congr_right fun hlock => ?_
  have hless : t.missCount < 3 := hbelow (by rw [hlock]; decide)
  change 3 ≤ t.missCount + 1 ↔ _
  omega

/-- The notice of a lost lock carries the third miss (R53). -/
theorem Timebase.missCount_lost {t : Timebase} (hbelow : t.lock ≠ .lost → t.missCount < Config.lostAfter) (h : t.losesLock true = true) :
    (t.atTick.wrapped true).missCount = 3 := by
  obtain ⟨halign, hlocked, htwo⟩ := (Timebase.losesLock_iff hbelow).mp h
  have hmiss : t.atTick.misses true = true := t.misses_iff.mpr ⟨halign, hlocked⟩
  have hcount : (t.atTick.wrapped true).missCount = if t.atTick.misses true then t.missCount + 1 else t.missCount := rfl
  rw [hcount, if_pos hmiss, htwo]

theorem WrapReport.bodies_lost {w : WrapReport} {m n : Nat} (h : w.lost = true → m = n) : w.bodies m = w.bodies n := by
  unfold WrapReport.bodies
  cases hlost : w.lost with
  | false => rfl
  | true => rw [h hlost]

/-! ## The natural wrap -/

/-- What a wrap's report says is what the statements name (R33, R43, R53). -/
theorem wrapNews_eq {s : State} {missCount : Nat} (h : HostId) {lost natural : Bool} (hlost : s.tb.losesLock natural = lost) :
    wrapNews s h (if lost then [.syncEvent .lost missCount] else []) =
      ((s.tb.wrapReport natural).bodies missCount).flatMap (timebaseNews s h ⟨s.tb.now.frame + 1, 0⟩) := by
  have hlength : (match s.tb.staged with
      | none => []
      | some n => [NoticeBody.tbFrame n]) = lengthBodies s.tb.staged := by cases s.tb.staged <;> rfl
  have hhalt : (if s.tb.pendingStop then [NoticeBody.tbState .halted .pendingStop]
      else if s.tb.runLimit = 1 then [NoticeBody.tbState .halted .runLimit] else []) = haltBodies s.tb.haltCause := by
    unfold Timebase.haltCause
    split
    · rfl
    · split <;> rfl
  subst hlost
  exact congrArg (List.flatMap _) (congrArg₂ (· ++ ·) (congrArg (· ++ _) hlength) hhalt)

section NaturalWrap

variable {s : State} (hrun : s.tb.mode = .running) (hlast : s.tb.now.phase + 1 = s.tb.length)

include hlast

theorem Timebase.atLastPhase_of : s.tb.atLastPhase = true := decide_eq_true hlast.ge

theorem Timebase.tickReport_last : s.tb.atTick.tickReport = some (s.tb.wrapReport true) :=
  (Timebase.atTick_tickReport _).trans (if_pos (Timebase.atLastPhase_of hlast))

theorem Timebase.ticked_last : s.tb.atTick.ticked = s.tb.atTick.wrapped true := if_pos (Timebase.atLastPhase_of hlast)

include hrun

theorem State.runTick_wraps (hd : s.tb.divider < s.tb.prescale) : s.runTick.tb = s.tb.atTick.begun true := by
  rw [State.runTick_tb hrun hd, Timebase.afterTick]
  exact if_pos (Timebase.atLastPhase_of hlast)

variable (hnear : s.tb.prescale ≤ s.tb.divider + 1)
  (hquiet : ∀ k, (s.channel k).filter ≠ .off → (s.channel k).pin ≠ (s.channel k).settled → (s.channel k).filterCount < 2)

include hnear hquiet

/-- The quiet wrap that is one REFCLK cycle away. -/
theorem State.runTick_wrap : s.runTick = s.ticking.countPulses.afterWrap (s.tb.wrapReport true) := by
  rw [State.runTick_quiet hrun hnear hquiet, Timebase.tickReport_last hlast]
  rfl

omit hquiet in
theorem State.wrapping_tb : s.ticking.countPulses.tb = s.tb.atTick.wrapped true := by
  rw [State.countPulses, (State.claimedLines_touches _ _).tb rfl, State.ticking_tb hrun hnear, Timebase.ticked_last hlast]

end NaturalWrap

theorem State.wrapping_touches (s : State) : OnlyTouches { tb := true, channels := true, lines := true } s s.ticking.countPulses :=
  s.ticking_touches.step (State.claimedLines_touches _ _)

theorem State.wrapping_line (s : State) (l : LineId) :
    s.ticking.countPulses.line l = if (s.claim l).state = .free then s.line l else pulseTicked (s.line l) := by
  have h := s.ticking_touches
  rw [State.countPulses_line, State.claim, State.line, h.claims rfl, h.lines rfl]

theorem pulseTicked_returned {r : OutputRec} (h : r.settings.frameReturn = true) :
    returned (pulseTicked r) = { r with level := r.settings.idle, pulse := none } := by
  have returns {q : OutputRec} (hq : q.settings = r.settings) : returned q = { q with level := q.settings.idle, pulse := none } :=
    if_pos (by rw [hq]; exact h)
  unfold pulseTicked
  cases r.pulse with
  | none => exact returns rfl
  | some n =>
    dsimp only
    split <;> exact returns rfl

/-- Settles O34: the record behind the wrap, the rows that stand for it, and its quiet effects. -/
theorem naturalWrapBeginsTheNextFrame : Obligations.NaturalWrapBeginsTheNextFrame := by
  intro s hrun hrange hbelow hlast
  have hdivider : s.tb.divider < s.tb.prescale := hrange.2.2.2.2.1
  have htouched := s.runTick_touches
  have htb := State.runTick_wraps hrun hlast hdivider
  have hat := Timebase.atLastPhase_of hlast
  obtain ⟨hstop, hmode⟩ := s.tb.atTick.begun_mode true hrun
  obtain ⟨hnow, hlength, hstaged, hlimit, hmissed, hcount, hlock⟩ := (s.tb.atTick.wrapped true).haltedIf_keeps s.tb.atTick.haltCause
  rw [← Timebase.begun] at hnow hlength hstaged hlimit hmissed hcount hlock
  have hmisses : s.tb.atTick.misses true = s.tb.misses true := rfl
  have hloses : s.tb.atTick.losesLock true = s.tb.losesLock true := rfl
  have hlosesIff := Timebase.losesLock_iff hbelow.1
  refine ⟨s.runTick, congrArg Host.Outcome.next (if_pos hat), rfl, ?_, ?_, ?_, ?_, ?_, ?_, htouched.claims rfl, htouched.sessions rfl,
    htouched.ports rfl, fun halign hlocked => ?missed, fun hno => ?unmissed, fun hone => congrArg Host.Outcome.next (if_pos ⟨hat, hone⟩),
    fun halign hlocked htwo => ?lost, fun hnear hquiet => ⟨fun hnone => ?nothing, fun l => ?line, fun hroom hrec => ?fired⟩⟩
  · rw [htb, hnow]; rfl
  · rw [htb, hlength]; rfl
  · rw [htb, hstaged]; rfl
  · rw [htb, hlimit]; rfl
  · rw [htb, hstop]
  · rw [htb, hmode]; rfl
  case missed =>
    have hmiss : s.tb.misses true = true := s.tb.misses_iff.mpr ⟨halign, hlocked⟩
    rw [htb, hmissed, hcount, hlock]
    simp only [Timebase.wrapped, hmisses, hloses, hmiss, if_true, true_and]
    refine ⟨rfl, ?_⟩
    by_cases htwo : s.tb.missCount = 2
    · rw [if_pos htwo, if_pos (hlosesIff.mpr ⟨halign, hlocked, htwo⟩)]
    · rw [if_neg htwo, if_neg fun hb => htwo (hlosesIff.mp hb).2.2]
      exact hlocked
  case unmissed =>
    have hmiss : s.tb.misses true = false :=
      Bool.eq_false_iff.mpr fun hb => hno.elim (fun h => h (s.tb.misses_iff.mp hb).1) fun h => h (s.tb.misses_iff.mp hb).2
    have hkeeps : s.tb.losesLock true = false := by rw [Timebase.losesLock, hmiss, Bool.false_and]
    rw [htb, hmissed, hcount, hlock]
    simp only [Timebase.wrapped, hmisses, hloses, hmiss, hkeeps, Bool.false_eq_true, if_false, true_and]
    exact ⟨rfl, rfl⟩
  case lost =>
    have hlost := hlosesIff.mpr ⟨halign, hlocked, htwo⟩
    refine ⟨congrArg Host.Outcome.next (if_pos ⟨hat, hlost⟩), fun h ho => ?_⟩
    refine State.runTick_alerted hrun hdivider (Timebase.tickReport_last hlast) hlost h ?_
    rw [State.session, htouched.sessions rfl]
    exact ho
  all_goals
    have hwrap := State.runTick_wrap hrun hlast hnear hquiet
    have hwrapping := State.wrapping_tb hrun hlast hnear
    have hbefore := s.wrapping_touches
    have hdue : dueAt s.ticking.countPulses s.ticking.countPulses.tb.now = dueAt s ⟨s.tb.now.frame + 1, 0⟩ := by
      rw [dueAt, hbefore.entries rfl, hwrapping]
      rfl
  case nothing =>
    have hempty : dueAt s ⟨s.tb.now.frame + 1, 0⟩ = [] :=
      List.filter_eq_nil_iff.mpr fun e he hd => hnone e he (of_decide_eq_true hd)
    obtain ⟨hentries, huses⟩ := State.afterWrap_nothing _ (s.tb.wrapReport true) (hdue.trans hempty)
    rw [hwrap]
    refine ⟨hentries.trans (hbefore.entries rfl), huses.trans (hbefore.uses rfl), fun l hclaimed hreturn => ?_, fun h lost hlost => ?_⟩
    · rw [State.afterWrap_line, hdue, hempty, State.claim, hbefore.claims rfl, if_neg hclaimed, s.wrapping_line, if_neg hclaimed]
      exact (if_pos rfl).trans (pulseTicked_returned hreturn)
    · have heq : s.tb.losesLock true = lost := Bool.eq_iff_iff.mpr (hlosesIff.trans hlost.symm)
      have htold := (State.afterWrap_tells _ (s.tb.wrapReport true) (hdue.trans hempty)).receives h
      have hcounted : (s.tb.wrapReport true).bodies s.ticking.countPulses.tb.missCount = (s.tb.wrapReport true).bodies 3 := by
        rw [hwrapping]
        exact WrapReport.bodies_lost fun hb => s.tb.missCount_lost hbelow.1 hb
      have hnews (body : NoticeBody) : timebaseNews s.ticking.countPulses h s.ticking.countPulses.tb.now body =
          timebaseNews s h ⟨s.tb.now.frame + 1, 0⟩ body := by
        rw [timebaseNews, timebaseNews, State.watches, State.watches, State.session, State.session, hbefore.sessions rfl, hwrapping]
        rfl
      rw [hcounted, show timebaseNews s.ticking.countPulses h s.ticking.countPulses.tb.now = _ from funext hnews,
        ← wrapNews_eq h heq] at htold
      refine htold.trans (foldl_notifyAt_noticeRec_congr _ ?_ ?_)
      · change (if s.tb.losesLock true then s.ticking.countPulses.alertAll else s.ticking.countPulses).noticeRec h = _
        rw [heq]
        split
        · exact State.alertAll_noticeRec_congr (by rw [State.noticeRec, hbefore.notices rfl]) (by rw [State.session, hbefore.sessions rfl])
        · rw [State.noticeRec, hbefore.notices rfl]
      · change ((if s.tb.losesLock true then s.ticking.countPulses.alertAll else s.ticking.countPulses).session h).isOpen = _
        rw [heq]
        split
        · rw [State.session, State.session, State.alertAll_same _ |>.sessions, State.alertAll_same _ |>.sessions, hbefore.sessions rfl]
        · rw [State.session, hbefore.sessions rfl]
  case line =>
    rw [hwrap, State.afterWrap_line, hdue, State.claim, hbefore.claims rfl, s.wrapping_line]
    by_cases hfree : (s.claim l).state = .free
    · rw [if_pos hfree, if_pos hfree]
      exact congrArg (grouped · _ _) (if_pos hfree).symm
    · rw [if_neg hfree, if_neg hfree]
      exact congrArg (grouped · _ _) (if_neg hfree).symm
  case fired =>
    have hslots : (s.ticking.countPulses.entries.map fun e => e.handle.slot).Nodup := by rw [hbefore.entries rfl]; exact hroom.1
    have hfired := State.afterWrap_fired _ (s.tb.wrapReport true) hslots
    have hnone := State.afterWrap_none _ (s.tb.wrapReport true) hslots (by rw [RecurrencesInRange, hbefore.entries rfl]; exact hrec)
    rw [hwrapping] at hnone
    rw [hwrap]
    refine ⟨SlotsFollow.congr hfired.follow ?_ (hbefore.uses rfl).symm rfl rfl, hnone⟩
    rw [hbefore.entries rfl]

end Sys2Proof.Machine
end

section
/-! SYNC edges: the start, the set-back and the aligned wrap, with the entries it overtakes (R40, R49 to R52, R20, R69). -/

set_option Elab.async false

namespace Sys2Proof.Machine

open Sys2Proof.Safety

/-! ## What a firing reads of the schedule -/

/-- Two states agree on what the firing of an entry reads (R17 to R19). -/
structure ScheduleAgrees (s u : State) : Prop where
  entries : u.entries = s.entries
  uses : u.uses = s.uses
  claims : u.claims = s.claims
  now : u.tb.now = s.tb.now
  length : u.tb.length = s.tb.length
  staged : u.tb.staged = s.tb.staged

namespace ScheduleAgrees

variable {s u : State} (h : ScheduleAgrees s u)

theorem of_touches {m : Touched} {v : State} (h : ScheduleAgrees s u) (ht : OnlyTouches m u v) (htb : m.tb = false := by rfl)
    (he : m.entries = false := by rfl) (hu : m.uses = false := by rfl) (hc : m.claims = false := by rfl) : ScheduleAgrees s v :=
  ⟨(ht.entries he).trans h.entries, (ht.uses hu).trans h.uses, (ht.claims hc).trans h.claims, by rw [ht.tb htb, h.now],
    by rw [ht.tb htb, h.length], by rw [ht.tb htb, h.staged]⟩

theorem symm (h : ScheduleAgrees s u) : ScheduleAgrees u s :=
  ⟨h.entries.symm, h.uses.symm, h.claims.symm, h.now.symm, h.length.symm, h.staged.symm⟩

include h

theorem leave (e : Entry) : (u.leave e).entries = (s.leave e).entries ∧ (u.leave e).uses = (s.leave e).uses := by
  simp only [State.leave, State.setUse_entries, State.setUse_uses, State.setEntries_entries, State.setEntries_uses, h.entries, h.uses,
    and_self]

theorem takeOut (e : Entry) : (u.takeOut e).entries = (s.takeOut e).entries := by
  rw [State.takeOut, State.takeOut, State.setEntries_entries, State.setEntries_entries, h.entries]

theorem reinsertFails (e : Entry) (due : Time) : (u.takeOut e).reinsertFails e due = (s.takeOut e).reinsertFails e due := by
  have hcollides (l : LineId) : (u.takeOut e).collides l due = (s.takeOut e).collides l due := by
    have hclaim : (u.takeOut e).claim l = (s.takeOut e).claim l := congrArg (·[l]) h.claims
    rw [State.collides, State.collides, h.takeOut, hclaim]
  have hgoverning (n : Nat) : (u.takeOut e).tb.governing n = (s.takeOut e).tb.governing n := by
    change (if n = 0 then u.tb.length else u.tb.staged.getD u.tb.length) = if n = 0 then s.tb.length else s.tb.staged.getD s.tb.length
    rw [h.length, h.staged]
  have hnow : (u.takeOut e).now = (s.takeOut e).now := h.now
  unfold State.reinsertFails
  rw [hgoverning, hnow]
  simp only [hcollides]

theorem afterFiring (e : Entry) : (u.afterFiring e).state.entries = (s.afterFiring e).state.entries ∧
    (u.afterFiring e).state.uses = (s.afterFiring e).state.uses := by
  unfold State.afterFiring State.continueEntry
  split
  · exact h.leave e
  · split
    · exact h.leave e
    · dsimp only
      rw [h.reinsertFails]
      split
      · exact h.leave e
      · refine ⟨?_, h.uses⟩
        have hnow : (u.takeOut e).now = (s.takeOut e).now := h.now
        rw [State.reinsert, State.reinsert, State.setEntries_entries, State.setEntries_entries, h.takeOut, hnow]

theorem overtakeOne (e : Entry) : ScheduleAgrees (s.overtakeOne e) (u.overtakeOne e) := by
  have hs := s.overtakeOne_touches e
  have hu := u.overtakeOne_touches e
  have hlist : (u.overtakeOne e).entries = (s.overtakeOne e).entries ∧ (u.overtakeOne e).uses = (s.overtakeOne e).uses := by
    unfold State.overtakeOne
    split
    · have hrearmed : ScheduleAgrees (s.rearmBy e.deed) (u.rearmBy e.deed) :=
        ((h.of_touches (u.rearmBy_touches e.deed)).symm.of_touches (s.rearmBy_touches e.deed)).symm
      rw [(u.conclude_entries_uses true e).1, (u.conclude_entries_uses true e).2, (s.conclude_entries_uses true e).1,
        (s.conclude_entries_uses true e).2]
      exact hrearmed.afterFiring e
    · rw [State.expire, State.expire, (State.notify_same _ _ _).entries, (State.notify_same _ _ _).uses, (State.notify_same _ _ _).entries,
        (State.notify_same _ _ _).uses]
      exact h.leave e
  exact ⟨hlist.1, hlist.2, (hu.claims rfl).trans (h.claims.trans (hs.claims rfl).symm), by rw [hu.tb rfl, hs.tb rfl, h.now],
    by rw [hu.tb rfl, hs.tb rfl, h.length], by rw [hu.tb rfl, hs.tb rfl, h.staged]⟩

theorem overtaken (es : List Entry) : ScheduleAgrees (es.foldl State.overtakeOne s) (es.foldl State.overtakeOne u) := by
  induction es generalizing s u with
  | nil => exact h
  | cons e es ih => exact ih (h.overtakeOne e)

end ScheduleAgrees

/-! ## The entries of the ended frame -/

/-- The entries of the ending frame (R20). -/
def goneFrom (s : State) : List Entry := s.entries.filter fun e => decide (e.due.frame = s.tb.now.frame)

/-- Those of them that fire late (R20, R69). -/
def lateFrom (s : State) : List Entry := (goneFrom s).filter fun e => decide (e.late = .fireLate)

section Overtake

variable (s : State)

theorem State.overtake_fold : s.overtake = (goneFrom s).foldl State.overtakeOne (s.applyGroups (lateFrom s)) := rfl

theorem State.overtake_agrees {u : State} (h : ScheduleAgrees s u) : ScheduleAgrees s.overtake u.overtake := by
  have hgone : goneFrom u = goneFrom s := by rw [goneFrom, goneFrom, h.entries, h.now]
  have hgrouped : ScheduleAgrees (s.applyGroups (lateFrom s)) (u.applyGroups (lateFrom u)) :=
    ((h.of_touches (u.applyGroups_touches _)).symm.of_touches (s.applyGroups_touches _)).symm
  rw [State.overtake_fold, State.overtake_fold, hgone]
  exact hgrouped.overtaken _

theorem State.overtake_line (l : LineId) : s.overtake.line l = grouped (s.line l) (s.claim l) (groupOn l (lateFrom s)) := by
  have hfold : OnlyTouches { entries := true, uses := true, notices := true, channels := true } (s.applyGroups (lateFrom s)) s.overtake :=
    OnlyTouches.foldl (fun t e _ => t.overtakeOne_touches e) _
  rw [State.line, hfold.lines rfl]
  exact s.applyGroups_line _ l

theorem State.overtake_nothing (h : goneFrom s = []) : s.overtake = s := by
  rw [State.overtake_fold, lateFrom, h]
  exact s.applyGroups_nil

theorem State.overtake_fired (hn : (s.entries.map fun e => e.handle.slot).Nodup) : Fired s s.overtake (goneFrom s) := by
  have hfired : Fired (s.applyGroups (lateFrom s)) s.overtake (goneFrom s) :=
    Fired.of_foldl (fun u e => u.overtakeOne_departed e) _ hn (hn.sublist (List.filter_sublist.map _)) fun e he =>
      List.mem_of_mem_filter he
  exact ⟨hfired.slots, SlotsFollow.congr hfired.follow rfl rfl rfl rfl, hfired.subset, hfired.left⟩

/-- No entry of the ended frame is left (R20). -/
theorem State.overtake_frames (hn : (s.entries.map fun e => e.handle.slot).Nodup) (hr : RecurrencesInRange s) :
    ∀ e ∈ s.overtake.entries, e.due.frame ≠ s.tb.now.frame := by
  intro x hx hframe
  rcases (s.overtake_fired hn).left x hx with ⟨hxs, hout⟩ | ⟨e, he, r, hrec, rfl⟩
  · exact hout (List.mem_filter.mpr ⟨hxs, decide_eq_true hframe⟩)
  · obtain ⟨hes, hef⟩ := List.mem_filter.mp he
    refine Entry.next_frame (e := e) (hr e hes r hrec).1 ?_
    rw [hframe, of_decide_eq_true hef]

end Overtake

theorem Fired.recurrences {s t : State} {gone : List Entry} (h : Fired s t gone) (hgone : ∀ e ∈ gone, e ∈ s.entries)
    (hr : RecurrencesInRange s) : RecurrencesInRange t := by
  intro x hx r hrec
  rcases h.left x hx with ⟨hxs, -⟩ | ⟨e, he, q, hq, rfl⟩
  · exact hr x hxs r hrec
  · obtain ⟨hperiod, hremaining⟩ := hr e (hgone e he) q hq
    cases hrec
    exact ⟨hperiod, Nat.le_trans (Nat.sub_le _ _) hremaining⟩

/-! ## The aligned wrap -/

section Aligned

variable (s : State)

/-- The frame that an aligned wrap begins, its ended frame's entries dealt with (R51). -/
def State.alignedBegin : State := s.overtake.setTb (s.overtake.tb.wrapped false)

theorem State.alignedWrap_eq : s.alignedWrap = s.alignedBegin.afterWrap (s.tb.wrapReport false) := by
  have htb : s.overtake.tb = s.tb := s.overtake_touches.tb rfl
  rw [← htb]
  rfl

theorem State.alignedBegin_tb : s.alignedBegin.tb = s.tb.wrapped false := by
  have htb : s.overtake.tb = s.tb := s.overtake_touches.tb rfl
  rw [← htb]
  rfl

theorem State.alignedBegin_due : dueAt s.alignedBegin s.alignedBegin.tb.now = dueAt s.overtake ⟨s.tb.now.frame + 1, 0⟩ := by
  rw [State.alignedBegin_tb]
  rfl

theorem grouped_free {r : OutputRec} {c : ClaimRec} (h : c.state = .free) (group : List LineAction) : grouped r c group = r := by
  unfold grouped
  split
  · rfl
  · simp only [OutputRec.applyGroup, h]

theorem State.alignedWrap_line (l : LineId) : s.alignedWrap.line l =
    grouped (if (s.claim l).state = .free then s.line l else returned (grouped (s.line l) (s.claim l) (groupOn l (lateFrom s))))
      (s.claim l) (groupOn l (dueAt s.overtake ⟨s.tb.now.frame + 1, 0⟩)) := by
  have hclaim : s.alignedBegin.claim l = s.claim l := congrArg (·[l]) (s.overtake_touches.claims rfl)
  have hline : s.alignedBegin.line l = grouped (s.line l) (s.claim l) (groupOn l (lateFrom s)) := s.overtake_line l
  rw [State.alignedWrap_eq, State.afterWrap_line, State.alignedBegin_due, hclaim, hline]
  by_cases hfree : (s.claim l).state = .free
  · rw [if_pos hfree, if_pos hfree, grouped_free hfree, grouped_free hfree, grouped_free hfree]
  · rw [if_neg hfree, if_neg hfree]

section Fired

variable (hn : (s.entries.map fun e => e.handle.slot).Nodup) (hr : RecurrencesInRange s)

include hn

theorem State.alignedWrap_fired : Fired s.alignedBegin s.alignedWrap (dueAt s.overtake ⟨s.tb.now.frame + 1, 0⟩) := by
  rw [State.alignedWrap_eq, ← State.alignedBegin_due]
  exact State.afterWrap_fired s.alignedBegin (s.tb.wrapReport false) (s.overtake_fired hn).slots

theorem State.alignedWrap_slotsFollow : SlotsFollow s s.alignedWrap := by
  have hfirst := s.overtake_fired hn
  have hsecond := s.alignedWrap_fired hn
  exact SlotsFollow.trans hfirst.follow (SlotsFollow.congr hsecond.follow rfl rfl rfl rfl) hfirst.subset hsecond.subset

include hr

/-- Every entry is due behind the beginning of the new frame (R15, R20). -/
theorem State.alignedWrap_later : ∀ e ∈ s.alignedWrap.entries,
    e.due.frame ≠ s.tb.now.frame ∧ e.due ≠ ⟨s.tb.now.frame + 1, 0⟩ := by
  have hfired := s.overtake_fired hn
  have hrec : RecurrencesInRange s.alignedBegin := hfired.recurrences (fun e he => List.mem_of_mem_filter he) hr
  have hframes := s.overtake_frames hn hr
  intro x hx
  constructor
  · rcases (s.alignedWrap_fired hn).left x hx with ⟨hxs, -⟩ | ⟨e, he, r, hq, rfl⟩
    · exact hframes x hxs
    · obtain ⟨hes, hdue⟩ := List.mem_filter.mp he
      obtain ⟨hperiod, -⟩ := hrec e hes r hq
      have hnext : (e.next r).due.frame = s.tb.now.frame + 1 + BitVec.ofNat 16 r.period := by
        change e.due.frame + _ = _
        rw [of_decide_eq_true hdue]
      rw [hnext]
      bv_omega
  · rw [State.alignedWrap_eq] at hx
    have hnone := State.afterWrap_none s.alignedBegin (s.tb.wrapReport false) hfired.slots hrec x hx
    rw [State.alignedBegin_tb] at hnone
    exact hnone

end Fired

end Aligned

/-! ## The edge that ends the frame -/

/-- The SYNC_EVENT of an edge that ends the frame, by its class (R51). -/
def edgeNews (s : State) (h : HostId) : List (Time × NoticeBody) :=
  if s.tb.lock ≠ .locked then timebaseNews s h s.tb.now (.syncEvent .locked 0)
  else if s.tb.now.phase < s.tb.length - min s.tb.window (s.tb.length / 4) then
    timebaseNews s h s.tb.now (.syncEvent .early s.tb.missCount)
  else []

/-- The count of misses behind an edge that ends the frame: an early one keeps it (R51). -/
def edgeMisses (s : State) : Nat :=
  if s.tb.lock = .locked ∧ s.tb.now.phase < s.tb.length - min s.tb.window (s.tb.length / 4) then s.tb.missCount else 0

/-- A SYNC edge wraps the state `x`: `s` with the edge recorded and told. -/
structure EndsFrame (s x : State) : Prop where
  taken : s.takeSyncEdge = x.alignedWrap
  touched : OnlyTouches { tb := true, notices := true } s x
  record : x.tb = { s.tb with lock := .locked, missCount := edgeMisses s }
  told : Tells s x (edgeNews s)

theorem State.takeSyncEdge_late {s : State} (hlock : s.tb.lock = .locked)
    (hwindow : s.tb.now.phase < min s.tb.window (s.tb.length / 4)) (hmissed : s.tb.prevMissed = true)
    (hbefore : s.tb.now.phase < s.tb.length - min s.tb.window (s.tb.length / 4)) : s.takeSyncEdge = s.setTb s.tb.setBack := by
  have hclass : s.tb.classifyEdge = .late := by
    rw [Timebase.classifyEdge, if_neg (not_not.mpr hlock)]
    exact (if_neg (Nat.not_le.mpr hbefore)).trans (if_pos ⟨hwindow, hmissed⟩)
  rw [State.takeSyncEdge, hclass]

/-- Every edge but a late one ends the frame (R50, R51). -/
theorem State.takeSyncEdge_endsFrame {s : State}
    (h : s.tb.lock ≠ .locked ∨ min s.tb.window (s.tb.length / 4) ≤ s.tb.now.phase ∨ s.tb.prevMissed = false ∨
      s.tb.length - min s.tb.window (s.tb.length / 4) ≤ s.tb.now.phase) : ∃ x, EndsFrame s x := by
  by_cases hlock : s.tb.lock = .locked
  · by_cases hlast : s.tb.length - min s.tb.window (s.tb.length / 4) ≤ s.tb.now.phase
    · have hclass : s.tb.classifyEdge = .onTime := by rw [Timebase.classifyEdge, if_neg (not_not.mpr hlock)]; exact if_pos hlast
      have hmisses : edgeMisses s = 0 := if_neg fun hb => Nat.not_lt.mpr hlast hb.2
      refine ⟨s.setTb { s.tb with missCount := 0 }, by rw [State.takeSyncEdge, hclass], (s.setTb_touches _).mono rfl, ?_, ?_⟩
      · rw [hmisses, ← hlock]
        rfl
      · refine Tells.congr (Tells.silent rfl rfl) fun h => ?_
        exact (if_neg (not_not.mpr hlock)).trans (if_neg (Nat.not_lt.mpr hlast))
    · have hbefore := Nat.lt_of_not_le hlast
      have hnotLate : ¬ (s.tb.now.phase < s.tb.windowInUse ∧ s.tb.prevMissed = true) := by
        rintro ⟨hphase, hmissed⟩
        rcases h with h | h | h | h
        · exact h hlock
        · exact Nat.not_lt.mpr h hphase
        · exact Bool.noConfusion (hmissed.symm.trans h)
        · exact hlast h
      have hclass : s.tb.classifyEdge = .early := by
        rw [Timebase.classifyEdge, if_neg (not_not.mpr hlock)]
        exact (if_neg hlast).trans (if_neg hnotLate)
      have htouched := s.tellTimebase_touches s.now (.syncEvent .early s.tb.missCount) none
      refine ⟨s.tellTimebase s.now (.syncEvent .early s.tb.missCount), by rw [State.takeSyncEdge, hclass], htouched.mono rfl, ?_, ?_⟩
      · rw [htouched.tb rfl, edgeMisses, if_pos ⟨hlock, hbefore⟩, ← hlock]
      · exact (State.tellTimebase_news rfl rfl _ _).congr fun h => (if_neg (not_not.mpr hlock)).trans (if_pos hbefore)
  · have hclass : s.tb.classifyEdge = .acquire := if_pos hlock
    have hmisses : edgeMisses s = 0 := if_neg fun hb => hlock hb.1
    have hrecorded := State.setTb_touches s { s.tb with lock := .locked, missCount := 0 }
    have htouched := (s.setTb { s.tb with lock := .locked, missCount := 0 }).tellTimebase_touches s.now (.syncEvent .locked 0) none
    refine ⟨(s.setTb { s.tb with lock := .locked, missCount := 0 }).tellTimebase s.now (.syncEvent .locked 0), ?_,
      hrecorded.step htouched, ?_, ?_⟩
    · rw [State.takeSyncEdge, hclass]
      rfl
    · rw [htouched.tb rfl, hmisses]
      rfl
    · have htold := State.tellTimebase_news (s := s) (u := s.setTb { s.tb with lock := .locked, missCount := 0 }) rfl rfl s.now
        (.syncEvent .locked 0)
      exact Tells.congr (htold.behind rfl rfl) fun h => if_pos hlock

/-! ## The edge that starts the count -/

theorem State.syncStart_tells (s : State) : Tells s s.syncStart fun h =>
    (if s.tb.syncMode = .align then timebaseNews s h s.tb.now (.syncEvent .locked s.tb.missCount) else []) ++
      timebaseNews s h s.tb.now (.tbState .running .start) := by
  unfold State.syncStart
  dsimp only
  split
  · next halign =>
    generalize hstart : s.setTb _ = t
    have ht : OnlyTouches { tb := true } s t := hstart ▸ State.setTb_touches _ _
    have htb : t.tb = { s.tb with mode := .running, divider := 0, lock := .locked } := hstart ▸ rfl
    have htouched := t.tellTimebase_touches t.now (.syncEvent .locked t.tb.missCount) none
    have hlocked : Tells t (t.tellTimebase t.now (.syncEvent .locked t.tb.missCount)) fun h =>
        timebaseNews s h s.tb.now (.syncEvent .locked s.tb.missCount) := by
      rw [State.now, htb]
      exact State.tellTimebase_news (by rw [htb]) (ht.sessions rfl) _ _
    have hmode := State.tellMode_news (s := s) (u := t.tellTimebase t.now (.syncEvent .locked t.tb.missCount)) (mode := .running)
      (by rw [htouched.tb rfl, htb]) ((htouched.sessions rfl).trans (ht.sessions rfl)) (by rw [htouched.tb rfl, htb])
      (by rw [htouched.tb rfl, htb]) .start
    exact Tells.congr ((hlocked.trans hmode).behind (ht.sessions rfl) (ht.notices rfl)) fun h => by rw [if_pos halign]
  · next hnone =>
    refine Tells.congr (s.setTb_tellMode_tells (t := { s.tb with mode := .running, divider := 0 }) rfl rfl rfl .start) fun h => ?_
    rw [hnone, if_neg nofun, List.nil_append]

/-! ## The edge in each state -/

theorem State.syncEdge_ignored {s : State}
    (h : s.tb.mode = .halted ∨ s.tb.mode = .refLost ∨ s.tb.mode = .running ∧ s.tb.syncMode = .none) : s.syncEdge = s := by
  unfold State.syncEdge
  rcases h with h | h | ⟨h, hsync⟩
  · rw [h]
  · rw [h]
  · rw [h, hsync]

theorem State.syncEdge_running {s : State} (hrun : s.tb.mode = .running) (halign : s.tb.syncMode = .align) :
    s.syncEdge = s.takeSyncEdge := by
  rw [State.syncEdge, hrun, halign]

section EndsFrame

variable {s x : State} (hx : EndsFrame s x)

include hx

theorem EndsFrame.agrees : ScheduleAgrees s x :=
  ⟨hx.touched.entries rfl, hx.touched.uses rfl, hx.touched.claims rfl, by rw [hx.record], by rw [hx.record], by rw [hx.record]⟩

theorem EndsFrame.gone : goneFrom x = goneFrom s := by rw [goneFrom, goneFrom, hx.touched.entries rfl, hx.record]

theorem EndsFrame.due : dueAt x.overtake ⟨x.tb.now.frame + 1, 0⟩ = dueAt s.overtake ⟨s.tb.now.frame + 1, 0⟩ := by
  rw [dueAt, dueAt, (s.overtake_agrees hx.agrees).entries, hx.record]

theorem EndsFrame.entries (h : dueAt s.overtake ⟨s.tb.now.frame + 1, 0⟩ = []) :
    x.alignedWrap.entries = s.overtake.entries ∧ x.alignedWrap.uses = s.overtake.uses := by
  have hagrees := s.overtake_agrees hx.agrees
  obtain ⟨hentries, huses⟩ := State.afterWrap_nothing x.alignedBegin (x.tb.wrapReport false)
    (x.alignedBegin_due.trans (hx.due.trans h))
  rw [State.alignedWrap_eq]
  exact ⟨hentries.trans hagrees.entries, huses.trans hagrees.uses⟩

theorem EndsFrame.tells (hgone : goneFrom s = []) (hdue : dueAt s.overtake ⟨s.tb.now.frame + 1, 0⟩ = []) :
    Tells s x.alignedWrap fun h => edgeNews s h ++ wrapNews s h [] := by
  have hbegin : x.alignedBegin = x.setTb (x.tb.wrapped false) := by
    rw [State.alignedBegin, x.overtake_nothing (hx.gone.trans hgone)]
  have htold := State.afterWrap_tells x.alignedBegin (x.tb.wrapReport false) (x.alignedBegin_due.trans (hx.due.trans hdue))
  rw [State.alignedWrap_eq]
  refine Tells.congr (hx.told.trans (Tells.behind htold ?_ ?_)) fun h => ?_
  · rw [hbegin]; rfl
  · rw [hbegin]; rfl
  · have hnews := wrapNews_eq (s := s) (missCount := x.alignedBegin.tb.missCount) (natural := false) (lost := false) h rfl
    have hreport : x.tb.wrapReport false = s.tb.wrapReport false := by rw [hx.record]; rfl
    have hbody (body : NoticeBody) : timebaseNews x.alignedBegin h x.alignedBegin.tb.now body =
        timebaseNews s h ⟨s.tb.now.frame + 1, 0⟩ body := by
      rw [hbegin]
      change (if x.tb.holder = some h ∨ x.watches h = true then _ else _) = _
      rw [timebaseNews, State.watches, State.watches, State.session, State.session, hx.touched.sessions rfl, hx.record]
      rfl
    rw [hreport, show timebaseNews x.alignedBegin h x.alignedBegin.tb.now = _ from funext hbody, ← hnews]
    rfl

end EndsFrame

/-- Settles O35: the edge by state and class, and the aligned wrap of the state that has recorded and told it. -/
theorem syncEdgeStartsSetsBackOrAligns : Obligations.SyncEdgeStartsSetsBackOrAligns := by
  intro s hroom hrec
  refine ⟨fun hwait => ?starts, fun hignored => congrArg Host.Outcome.next (State.syncEdge_ignored hignored), fun hrun halign =>
    ⟨fun hlock hwindow hmissed hbefore => ?late, fun hends => ?aligns⟩⟩
  case starts =>
    have htouched := s.syncStart_touches
    have hstart : s.syncEdge = s.syncStart := by rw [State.syncEdge, hwait]
    refine ⟨s.syncStart, congrArg Host.Outcome.next hstart, ?_, htouched.entries rfl, htouched.uses rfl, htouched.lines rfl,
      htouched.claims rfl, htouched.channels rfl, htouched.reflexes rfl, htouched.sessions rfl, htouched.ports rfl,
      s.syncStart_tells.receives⟩
    refine s.syncStart_tb.trans (congrArg (fun lock => { s.tb with mode := .running, divider := 0, lock := lock }) ?_)
    cases s.tb.syncMode with
    | align => exact (if_pos rfl).symm
    | none => exact (if_neg nofun).symm
  case late =>
    exact congrArg Host.Outcome.next ((State.syncEdge_running hrun halign).trans (State.takeSyncEdge_late hlock hwindow hmissed hbefore))
  case aligns =>
    obtain ⟨x, hx⟩ := State.takeSyncEdge_endsFrame hends
    have hbefore := hx.touched
    have htouched := x.alignedWrap_touches
    have hslots : (x.entries.map fun e => e.handle.slot).Nodup := by rw [hbefore.entries rfl]; exact hroom.1
    have hlater := x.alignedWrap_later hslots (by rw [RecurrencesInRange, hbefore.entries rfl]; exact hrec)
    have hfollow := x.alignedWrap_slotsFollow hslots
    obtain ⟨hstop, hmode⟩ := x.tb.begun_mode false (by rw [hx.record]; exact hrun)
    obtain ⟨hnow, hlength, hstaged, hlimit, hmissed, hcount, hlock⟩ := (x.tb.wrapped false).haltedIf_keeps x.tb.haltCause
    have htb := x.alignedWrap_tb
    rw [hx.record] at hlater
    refine ⟨x.alignedWrap, congrArg Host.Outcome.next ((State.syncEdge_running hrun halign).trans hx.taken), ?_, ?_, ?_, ?_, ?_, ?_, ?_,
      ?_, ?_, (htouched.claims rfl).trans (hbefore.claims rfl), (htouched.sessions rfl).trans (hbefore.sessions rfl),
      (htouched.ports rfl).trans (hbefore.ports rfl), hlater, ?_, ?effects⟩
    · rw [htb, hnow, hx.record]; rfl
    · rw [htb, hlock, hx.record]; rfl
    · rw [htb, hmissed]; rfl
    · rw [htb, hlength, hx.record]; rfl
    · rw [htb, hstaged]; rfl
    · rw [htb, hlimit, hx.record]; rfl
    · rw [htb]; exact hstop
    · rw [htb]; exact hmode.trans (by rw [hx.record])
    · rw [htb, hcount, hx.record]; rfl
    · refine SlotsFollow.congr hfollow ?_ (hbefore.uses rfl).symm rfl rfl
      rw [hbefore.entries rfl]
    case effects =>
      rintro gone late due rfl rfl rfl
      refine ⟨?_, fun l => ?_, hx.entries, fun hgone hdue => (hx.tells hgone hdue).receives⟩
      · rw [State.overtake_fold, State.applyGroups_eq]
        rfl
      · have hlate : lateFrom x = lateFrom s := by rw [lateFrom, lateFrom, hx.gone]
        rw [State.alignedWrap_line, hx.due, hlate, State.claim, State.line, hbefore.claims rfl, hbefore.lines rfl]
        rfl

end Sys2Proof.Machine
end

section
/-! One housekeeping period: its counts, and the events they bring (R54, R158, R159, R177; log entry 8). -/

set_option Elab.async false

namespace Sys2Proof.Machine

open Sys2Proof.Safety

/-! ## Counts over the four hosts -/

theorem mem_allHosts (h : HostId) : h ∈ allHosts := by cases h <;> decide

/-- Where each host's turn counts that host's record and no other, every host's is counted (sections 8.4, 9.8). -/
theorem foldl_each {α : Type} (view : State → HostId → α) (count : α → α) (take : State → HostId → State)
    (hself : ∀ s h, view (take s h) h = count (view s h)) (hother : ∀ s h k, k ≠ h → view (take s h) k = view s k) (s : State)
    (k : HostId) : view (allHosts.foldl take s) k = count (view s k) :=
  foldl_once (fun t => view t k) take count k allHosts (fun t h _ hne => hother t h k hne.symm) (fun t => hself t k)
    (List.count_eq_one_of_mem allHosts_nodup (mem_allHosts k)) s

/-- A port's record after its idle check (R177). -/
def PortRec.checked (r : PortRec) : PortRec :=
  if r.transaction = .shifting then (if 64 ≤ r.stall + 1 then stalled r else { r with stall := r.stall + 1 }) else r

theorem State.stallCheck_eq (s : State) (p : HostId) : s.stallCheck p = s.setPort p (s.port p).checked := by
  have hself : s.setPort p (s.port p) = s := by simp [State.setPort]
  unfold State.stallCheck PortRec.checked
  split
  · next hshifting =>
    rw [if_pos hshifting]
    by_cases hlimit : 64 ≤ (s.port p).stall + 1
    · have hnext : s.stallsNext p = true := decide_eq_true hlimit
      rw [if_pos hnext, if_pos hlimit, s.abandon_eq p hshifting]
    · have hnext : ¬ s.stallsNext p = true := fun hb => hlimit (of_decide_eq_true hb)
      rw [if_neg hnext, if_neg hlimit]
  · next hnot => rw [if_neg hnot, hself]

section Count

variable (s : State)

theorem State.stallChecks_port (p : HostId) : (allHosts.foldl State.stallCheck s).port p = (s.port p).checked :=
  foldl_each State.port PortRec.checked State.stallCheck (fun t h => by rw [t.stallCheck_eq, State.port_setPort_same])
    (fun t h k hne => by rw [t.stallCheck_eq, State.port_setPort, if_neg hne]) s p

theorem State.countPeriod_port (p : HostId) : s.countPeriod.port p = (s.port p).checked := by
  rw [← s.stallChecks_port p]
  exact congrArg (·.get p) (((State.countTimers_touches _).step (State.countMonitor_touches _)
    (k := { sessions := true, tb := true })).ports rfl)

theorem State.countPeriod_session (h : HostId) : s.countPeriod.session h = (s.session h).counted := by
  have hcounted := foldl_each State.session SessionRec.counted (fun v k => v.setSession k (v.session k).counted) (fun t k => State.session_setSession_same ..)
    (fun t j k hne => (State.session_setSession ..).trans (if_neg hne))
    (allHosts.foldl State.stallCheck s) h
  have hbefore : (allHosts.foldl State.stallCheck s).session h = s.session h := congrArg (·.get h) (s.stallChecks_touches.sessions rfl)
  rw [hbefore] at hcounted
  exact hcounted

theorem State.countPeriod_tb : s.countPeriod.tb = { s.tb with monitor := s.tb.monitor.counted } := by
  have hbefore : (allHosts.foldl (fun v h => v.setSession h (v.session h).counted) (allHosts.foldl State.stallCheck s)).tb = s.tb :=
    ((State.countTimers_touches _).tb rfl).trans (s.stallChecks_touches.tb rfl)
  rw [← hbefore]
  rfl

end Count

/-! ## What the events leave -/

section Events

variable (s : State)

theorem State.mem_periodEvents_declaration : HousekeepingEvent.declaration ∈ s.periodEvents ↔ s.tb.monitor.declares = true := by
  simp [State.periodEvents]

theorem State.mem_periodEvents_expiry (h : HostId) : .expiry h ∈ s.periodEvents ↔ (s.session h).expired = true := by
  simp [State.periodEvents, mem_allHosts]

theorem State.periodEvents_nodup : s.periodEvents.Nodup := by
  refine List.Nodup.append ?_ ?_ ?_
  · split <;> simp
  · exact (allHosts_nodup.filter _).map fun _ _ => HousekeepingEvent.expiry.inj
  · split <;> simp

theorem State.declare_present (h : s.tb.monitor.verdict = .present) : s.declare = s.declareAbsent := by rw [State.declare, h]

theorem State.declare_absent (h : s.tb.monitor.verdict = .absent) : s.declare = s.declarePresent := by rw [State.declare, h]

/-- What every event of a period keeps of the timebase but the mode and the monitor's verdict (R55, R56, R60). -/
theorem State.takeHousekeeping_time (x : HousekeepingEvent) :
    (s.takeHousekeeping x).tb.now = s.tb.now ∧ (s.takeHousekeeping x).tb.length = s.tb.length := by
  cases x with
  | declaration =>
    rw [State.takeHousekeeping]
    cases hv : s.tb.monitor.verdict with
    | present => rw [s.declare_present hv, State.declareAbsent_tb]; exact ⟨rfl, rfl⟩
    | absent => rw [s.declare_absent hv, State.declarePresent_tb]; exact ⟨rfl, rfl⟩
  | expiry h =>
    rw [State.takeHousekeeping, State.endSession_tb]
    unfold Timebase.without
    split
    · split <;> exact ⟨rfl, rfl⟩
    · exact ⟨rfl, rfl⟩

theorem State.expiry_mode (h : HostId) (cause : EndCause) :
    (s.endSession h cause).tb.mode = s.tb.mode ∧ (s.endSession h cause).tb.monitor = s.tb.monitor := by
  rw [State.endSession_tb]
  unfold Timebase.without
  split
  · split <;> exact ⟨rfl, rfl⟩
  · exact ⟨rfl, rfl⟩

theorem State.takeHousekeeping_ports (x : HousekeepingEvent) : (s.takeHousekeeping x).ports = s.ports := by
  cases x with
  | declaration => exact s.declare_touches.ports rfl
  | expiry h => exact s.endSession_ports h .silence

theorem State.takeHousekeeping_session {x : HousekeepingEvent} {h : HostId} (hne : x ≠ .expiry h) :
    (s.takeHousekeeping x).session h = s.session h := by
  cases x with
  | declaration => exact congrArg (·.get h) (s.declare_touches.sessions rfl)
  | expiry k => exact (s.endSession_session k h .silence).trans (if_neg fun heq => hne (congrArg _ heq.symm))

end Events

/-! ## The events taken -/

/-- A state whose period has been counted, once the events of that period are taken. -/
def State.eventsTaken (u : State) : State := u.takeAll u.periodEvents State.takeHousekeeping

section Taken

variable (u : State)

theorem State.eventsTaken_time : u.eventsTaken.tb.now = u.tb.now ∧ u.eventsTaken.tb.length = u.tb.length := by
  have hkeeps := State.takeAll_keeps (fun t => (t.tb.now, t.tb.length)) State.takeHousekeeping u.periodEvents (fun _ _ => rfl)
    (fun t x _ => Prod.ext (t.takeHousekeeping_time x).1 (t.takeHousekeeping_time x).2) u
  exact Prod.ext_iff.mp hkeeps

theorem State.eventsTaken_port (p : HostId) : u.eventsTaken.port p = u.port p :=
  congrArg (·.get p) (State.takeAll_keeps State.ports State.takeHousekeeping u.periodEvents (fun _ _ => rfl)
    (fun t x _ => t.takeHousekeeping_ports x) u)

/-- A session ends where its count has reached the limit (R159). -/
theorem State.eventsTaken_session (h : HostId) :
    u.eventsTaken.session h = if (u.session h).expired then (u.session h).ended .silence else u.session h := by
  have hmem := u.mem_periodEvents_expiry h
  have hself (t : State) : (t.takeHousekeeping (.expiry h)).session h = (t.session h).ended .silence :=
    (t.endSession_session h h .silence).trans (if_pos rfl)
  split
  · next hexpired =>
    exact State.takeAll_once (fun t => t.session h) State.takeHousekeeping (·.ended .silence) (.expiry h) u.periodEvents
      (fun _ _ => rfl) (fun t x _ hne => t.takeHousekeeping_session hne) hself
      (List.count_eq_one_of_mem u.periodEvents_nodup (hmem.mpr hexpired)) u
  · next hstands =>
    exact State.takeAll_keeps (fun t => t.session h) State.takeHousekeeping u.periodEvents (fun _ _ => rfl)
      (fun t x hx => t.takeHousekeeping_session fun heq => hstands (hmem.mp (heq ▸ hx))) u

/-- What the events make of the mode and the monitor: a declaration is taken once (R54 to R56). -/
def Timebase.declared (t : Timebase) : TbMode × RefMonitor :=
  if t.monitor.declares then
    (if t.monitor.verdict = .present then (.refLost, { t.monitor with verdict := .absent, withoutEdge := 0, withEdge := 0 })
     else (t.mode, { t.monitor with verdict := .present, withoutEdge := 0, withEdge := 0 }))
  else (t.mode, t.monitor)

theorem State.declare_mode (t : State) (h : t.tb.monitor.declares = true) :
    (t.declare.tb.mode, t.declare.tb.monitor) = t.tb.declared := by
  rw [Timebase.declared, if_pos h]
  cases hv : t.tb.monitor.verdict with
  | present =>
    rw [t.declare_present hv, t.declareAbsent_tb]
    exact (if_pos rfl).symm
  | absent =>
    rw [t.declare_absent hv, t.declarePresent_tb]
    exact (if_neg nofun).symm

theorem State.eventsTaken_mode : (u.eventsTaken.tb.mode, u.eventsTaken.tb.monitor) = u.tb.declared := by
  rw [State.eventsTaken]
  have hexpiry (t : State) (x : HousekeepingEvent) (hne : x ≠ .declaration) :
      ((t.takeHousekeeping x).tb.mode, (t.takeHousekeeping x).tb.monitor) = (t.tb.mode, t.tb.monitor) := by
    cases x with
    | declaration => exact absurd rfl hne
    | expiry k => rw [State.takeHousekeeping, (t.expiry_mode k .silence).1, (t.expiry_mode k .silence).2]
  by_cases hdeclares : u.tb.monitor.declares = true
  · refine State.takeAll_turn (fun t => (t.tb.mode, t.tb.monitor) = (u.tb.mode, u.tb.monitor))
      (fun t => (t.tb.mode, t.tb.monitor) = u.tb.declared) State.takeHousekeeping .declaration u.periodEvents (fun _ _ ht => ht)
      (fun t ht x _ hne => (hexpiry t x hne).trans ht) (fun t ht x _ hne => (hexpiry t x hne).trans ht) (fun t ht => ?_)
      (List.count_eq_one_of_mem u.periodEvents_nodup (u.mem_periodEvents_declaration.mpr hdeclares)) u rfl
    obtain ⟨hmode, hmonitor⟩ := Prod.ext_iff.mp ht
    dsimp only at hmode hmonitor
    refine (t.declare_mode (by rw [hmonitor]; exact hdeclares)).trans ?_
    rw [Timebase.declared, Timebase.declared, hmode, hmonitor]
  · rw [Timebase.declared, if_neg hdeclares]
    exact State.takeAll_keeps (fun t => (t.tb.mode, t.tb.monitor)) State.takeHousekeeping u.periodEvents (fun _ _ => rfl)
      (fun t x hx => hexpiry t x fun heq => hdeclares (u.mem_periodEvents_declaration.mp (heq ▸ hx))) u

/-- Where no session expires, the declaration is the only event. -/
theorem State.eventsTaken_quiet (h : ∀ h, (u.session h).expired = false) :
    u.eventsTaken = if u.tb.monitor.declares then u.declare else u := by
  have hnone : allHosts.filter (fun h => (u.session h).expired) = [] :=
    List.filter_eq_nil_iff.mpr fun k _ => ne_true_of_eq_false (h k)
  rw [State.eventsTaken, State.periodEvents, hnone, List.map_nil, List.append_nil]
  split
  · exact State.takeAll_singleton u _ _
  · rfl

end Taken

/-! ## The period -/

section Period

variable {s : State}

theorem State.housekeepingPeriod_eq (h : s.resetN = true) : s.housekeepingPeriod = s.countPeriod.eventsTaken := if_pos h

theorem State.housekeepingPeriod_port (h : s.resetN = true) (p : HostId) : s.housekeepingPeriod.port p = (s.port p).checked := by
  rw [State.housekeepingPeriod_eq h, State.eventsTaken_port, State.countPeriod_port]

theorem State.housekeepingPeriod_session (h : s.resetN = true) (k : HostId) : s.housekeepingPeriod.session k =
    if (s.session k).counted.expired then (s.session k).counted.ended .silence else (s.session k).counted := by
  rw [State.housekeepingPeriod_eq h, State.eventsTaken_session, State.countPeriod_session]

theorem State.housekeepingPeriod_mode (h : s.resetN = true) {mode : TbMode} {m : RefMonitor}
    (hdeclared : ({ s.tb with monitor := s.tb.monitor.counted } : Timebase).declared = (mode, m)) :
    s.housekeepingPeriod.tb.mode = mode ∧ s.housekeepingPeriod.tb.monitor = m := by
  have hmode := s.countPeriod.eventsTaken_mode
  rw [s.countPeriod_tb, hdeclared] at hmode
  rw [State.housekeepingPeriod_eq h]
  exact Prod.ext_iff.mp hmode

theorem Timebase.declared_undeclared {t : Timebase} (h : t.monitor.declares = false) : t.declared = (t.mode, t.monitor) :=
  if_neg (ne_true_of_eq_false h)

theorem step_empty (h : s.pending = []) : step s = .next s.housekeepingPeriod := by rw [step, h]

end Period

/-! ## A session's count -/

section Timer

variable {r : SessionRec}

theorem SessionRec.counted_stopped (h : r.isOpen = false ∨ r.timer = none) : r.counted = r := by
  unfold SessionRec.counted
  rcases h with hc | ht
  · rw [hc, if_neg Bool.false_ne_true]
  · rw [ht]
    split
    · exact congrArg (fun timer => { r with timer := timer }) ht.symm
    · rfl

theorem SessionRec.counted_running (ho : r.isOpen = true) {timer : SilenceTimer} (ht : r.timer = some timer) :
    r.counted = { r with timer := some timer.counted } := by
  rw [SessionRec.counted, if_pos ho, ht, Option.map_some]

/-- No session ends where no timer reaches its limit. -/
theorem SessionRec.counted_short {r : SessionRec} (h : r.isOpen = false ∨ r.timer = none ∨
    ∃ units periods, r.timer = some ⟨units, periods⟩ ∧ periods < 262 ∧
      (units + 1 < r.silenceLimit ∨ units < r.silenceLimit ∧ periods < 261)) : r.counted.expired = false := by
  rcases h with hc | ht | ⟨units, periods, ht, hperiods, hshort⟩
  · exact SessionRec.counted_expired_stopped (.inl hc)
  · exact SessionRec.counted_expired_stopped (.inr ht)
  · cases ho : r.isOpen with
    | false => exact SessionRec.counted_expired_stopped (.inl ho)
    | true =>
      rw [SessionRec.counted_expired ho ht, SilenceTimer.counted_units, decide_eq_false_iff_not]
      split <;> omega

end Timer

/-! ## A monitor's count -/

section Monitor

variable {s : State} (hreset : s.resetN = true)

include hreset

theorem State.period_undeclared {m : RefMonitor} (hc : s.tb.monitor.counted = m) (hd : m.declares = false) :
    s.housekeepingPeriod.tb.mode = s.tb.mode ∧ s.housekeepingPeriod.tb.monitor = m :=
  State.housekeepingPeriod_mode hreset (by rw [hc]; exact Timebase.declared_undeclared hd)

theorem State.period_lost {m : RefMonitor} (hc : s.tb.monitor.counted = m) (hd : m.declares = true) (hv : m.verdict = .present) :
    s.housekeepingPeriod.tb.mode = .refLost ∧
      s.housekeepingPeriod.tb.monitor = { m with verdict := .absent, withoutEdge := 0, withEdge := 0 } :=
  State.housekeepingPeriod_mode hreset (by rw [hc]; exact (if_pos hd).trans (if_pos hv))

theorem State.period_back {m : RefMonitor} (hc : s.tb.monitor.counted = m) (hd : m.declares = true) (hv : m.verdict = .absent) :
    s.housekeepingPeriod.tb.mode = s.tb.mode ∧
      s.housekeepingPeriod.tb.monitor = { m with verdict := .present, withoutEdge := 0, withEdge := 0 } :=
  State.housekeepingPeriod_mode hreset (by rw [hc]; exact (if_pos hd).trans (if_neg fun hp => by cases hv.symm.trans hp))

/-- The monitor in PRESENT (R54, R55). -/
theorem State.period_present (hv : s.tb.monitor.verdict = .present) :
    (s.tb.monitor.edgeSeen = true → s.housekeepingPeriod.tb.mode = s.tb.mode ∧
      s.housekeepingPeriod.tb.monitor = { s.tb.monitor with withoutEdge := 0, edgeSeen := false }) ∧
    (s.tb.monitor.edgeSeen = false → s.tb.monitor.withoutEdge < 3 → s.housekeepingPeriod.tb.mode = s.tb.mode ∧
      s.housekeepingPeriod.tb.monitor = { s.tb.monitor with withoutEdge := s.tb.monitor.withoutEdge + 1, edgeSeen := false }) ∧
    (s.tb.monitor.edgeSeen = false → s.tb.monitor.withoutEdge = 3 → s.housekeepingPeriod.tb.mode = .refLost ∧
      s.housekeepingPeriod.tb.monitor = { verdict := .absent, withoutEdge := 0, withEdge := 0, edgeSeen := false }) := by
  have hcounted := RefMonitor.counted_present hv
  have hdeclares (n : Nat) := RefMonitor.declares_present (m := { s.tb.monitor with withoutEdge := n, edgeSeen := false }) hv
  refine ⟨fun he => ?_, fun he hfew => ?_, fun he hthree => ?_⟩
  · rw [he, if_pos rfl] at hcounted
    exact State.period_undeclared hreset hcounted ((hdeclares 0).trans rfl)
  · rw [he, if_neg Bool.false_ne_true] at hcounted
    exact State.period_undeclared hreset hcounted ((hdeclares _).trans (decide_eq_false (Nat.not_le.mpr (Nat.succ_lt_succ hfew))))
  · rw [he, if_neg Bool.false_ne_true, hthree] at hcounted
    exact State.period_lost hreset hcounted ((hdeclares _).trans rfl) hv

/-- The monitor in ABSENT (R54, R56). -/
theorem State.period_absent (hv : s.tb.monitor.verdict = .absent) :
    s.housekeepingPeriod.tb.mode = s.tb.mode ∧
      (s.tb.monitor.edgeSeen = false → s.housekeepingPeriod.tb.monitor = { s.tb.monitor with withEdge := 0, edgeSeen := false }) ∧
      (s.tb.monitor.edgeSeen = true → s.tb.monitor.withEdge = 0 →
        s.housekeepingPeriod.tb.monitor = { s.tb.monitor with withEdge := 1, edgeSeen := false }) ∧
      (s.tb.monitor.edgeSeen = true → s.tb.monitor.withEdge = 1 →
        s.housekeepingPeriod.tb.monitor = { verdict := .present, withoutEdge := 0, withEdge := 0, edgeSeen := false }) := by
  have hcounted := RefMonitor.counted_absent hv
  have hdeclares (n : Nat) := RefMonitor.declares_absent (m := { s.tb.monitor with withEdge := n, edgeSeen := false }) hv
  refine ⟨?_, fun he => ?_, fun he hzero => ?_, fun he hone => ?_⟩
  · cases hd : s.tb.monitor.counted.declares with
    | false => exact (State.period_undeclared hreset rfl hd).1
    | true => exact (State.period_back hreset rfl hd (by rw [hcounted]; exact hv)).1
  · rw [he, if_neg Bool.false_ne_true] at hcounted
    exact (State.period_undeclared hreset hcounted ((hdeclares 0).trans rfl)).2
  · rw [he, if_pos rfl, hzero] at hcounted
    exact (State.period_undeclared hreset hcounted ((hdeclares 1).trans rfl)).2
  · rw [he, if_pos rfl, hone] at hcounted
    exact (State.period_back hreset hcounted ((hdeclares 2).trans rfl) hv).2

/-- A session whose timer runs (R158, R159). -/
theorem State.period_running {k : HostId} (ho : Open s k) {units periods : Nat} (ht : (s.session k).timer = some ⟨units, periods⟩) :
    (periods < 261 → units < (s.session k).silenceLimit →
      s.housekeepingPeriod.session k = { s.session k with timer := some ⟨units, periods + 1⟩ }) ∧
    (periods = 261 → units + 1 < (s.session k).silenceLimit →
      s.housekeepingPeriod.session k = { s.session k with timer := some ⟨units + 1, 0⟩ }) ∧
    (periods = 261 → units + 1 = (s.session k).silenceLimit →
      s.housekeepingPeriod.session k =
        { isOpen := false, number := (s.session k).number, silenceLimit := 0, timer := none, watch := false, endCause := .silence }) := by
  have hexpired := SessionRec.counted_expired ho ht
  have hcounted := SessionRec.counted_running ho ht
  have hperiod := State.housekeepingPeriod_session hreset k
  rw [hexpired, SilenceTimer.counted_units, hcounted] at hperiod
  refine ⟨fun hp hl => ?_, fun hp hl => ?_, fun hp hl => ?_⟩
  · have hmore : ¬ 262 ≤ periods + 1 := by omega
    rw [hperiod, if_neg hmore, if_neg (by rw [decide_eq_true_eq]; omega)]
    exact congrArg (fun timer => { s.session k with timer := some timer }) (if_neg hmore)
  · have hfull : 262 ≤ periods + 1 := by omega
    rw [hperiod, if_pos hfull, if_neg (by rw [decide_eq_true_eq]; omega)]
    exact congrArg (fun timer => { s.session k with timer := some timer }) (if_pos hfull)
  · have hfull : 262 ≤ periods + 1 := by omega
    rw [hperiod, if_pos hfull, if_pos (by rw [decide_eq_true_eq]; omega)]
    rfl

end Monitor

/-- A period's count is told to no one. -/
theorem State.countPeriod_receives {s t : State} {h : HostId} {news : List (Time × NoticeBody)} (hr : Receives s.countPeriod t h news) :
    Receives s t h news := by
  refine Eq.trans hr (foldl_notifyAt_noticeRec_congr news ?_ ?_)
  · exact congrArg (·.get h) (s.countPeriod_touches.notices rfl)
  · rw [s.countPeriod_session, SessionRec.counted_isOpen]

theorem State.countPeriod_news (s : State) (h : HostId) (stamp : Time) (body : NoticeBody) :
    timebaseNews s.countPeriod h stamp body = timebaseNews s h stamp body := by
  have hwatches : s.countPeriod.watches h = s.watches h := by
    rw [State.watches, State.watches, s.countPeriod_session, SessionRec.counted_isOpen]
    unfold SessionRec.counted
    split <;> rfl
  rw [timebaseNews, timebaseNews, hwatches, s.countPeriod_tb]

/-- A period without a declaration of ABSENT declares PRESENT or nothing (R54). -/
theorem State.countPeriod_declares {s : State} (hreset : s.resetN = true)
    (h : s.tb.monitor.verdict = .absent ∨ s.tb.monitor.edgeSeen = true ∨ s.tb.monitor.withoutEdge < 3) :
    s.countPeriod.tb.monitor.declares = true ↔
      s.tb.monitor.verdict = .absent ∧ s.tb.monitor.edgeSeen = true ∧ 1 ≤ s.tb.monitor.withEdge := by
  have hcounted : s.countPeriod.tb.monitor = s.tb.monitor.counted := congrArg Timebase.monitor s.countPeriod_tb
  have hfrom (v : RefVerdict) : s.declaresFrom v = true ↔ s.tb.monitor.verdict = v ∧ s.tb.monitor.counted.declares = true := by
    simp [State.declaresFrom, hreset]
  have hpresent := hfrom .present
  have habsent := hfrom .absent
  rw [State.declaresFrom_present_iff, hreset] at hpresent
  rw [State.declaresFrom_absent_iff, hreset] at habsent
  simp only [true_and] at hpresent habsent
  rw [hcounted]
  cases hv : s.tb.monitor.verdict with
  | absent => simpa [hv] using habsent.symm
  | present =>
    refine ⟨fun hd => ?_, fun hb => nomatch hb.1⟩
    obtain ⟨-, hedge, hmany⟩ := hpresent.mpr ⟨hv, hd⟩
    simp only [hv, hedge, reduceCtorEq, false_or, Bool.false_eq_true] at h
    omega

/-- Settles O3: the counts, and the event that each brings. -/
theorem emptyQueueStepIsAHousekeepingPeriod : Obligations.EmptyQueueStepIsAHousekeepingPeriod := by
  intro s hempty
  have hstep := step_empty hempty
  refine ⟨fun hlow => hstep.trans (congrArg Host.Outcome.next (if_neg (ne_true_of_eq_false hlow))), fun hreset => ?_⟩
  have htouched := s.housekeepingPeriod_touches
  have htime : s.housekeepingPeriod.tb.now = s.tb.now ∧ s.housekeepingPeriod.tb.length = s.tb.length := by
    have h := s.countPeriod.eventsTaken_time
    rw [s.countPeriod_tb] at h
    rw [State.housekeepingPeriod_eq hreset]
    exact h
  have hport := State.housekeepingPeriod_port hreset
  refine ⟨_, hstep, htouched.pending.trans hempty, htouched.resetN.trans hreset, htime.1, htime.2, State.period_present hreset,
    State.period_absent hreset, fun h => ⟨fun hstopped => ?_, fun units periods ho ht => State.period_running hreset ho ht⟩,
    fun p => ⟨fun ht => (hport p).trans (if_neg ht), fun ht hfew => ?_, fun ht hlast => ?_⟩, fun hquiet hpresent => ?quiet⟩
  · have hstopped := hstopped.imp_left Bool.eq_false_iff.mpr
    rw [State.housekeepingPeriod_session hreset, SessionRec.counted_expired_stopped hstopped, if_neg Bool.false_ne_true,
      SessionRec.counted_stopped hstopped]
  · exact (hport p).trans ((if_pos ht).trans (if_neg (by omega)))
  · exact (hport p).trans ((if_pos ht).trans (if_pos (by omega)))
  case quiet =>
    have hcounted : s.housekeepingPeriod = if s.countPeriod.tb.monitor.declares then s.countPeriod.declare else s.countPeriod := by
      rw [State.housekeepingPeriod_eq hreset]
      refine State.eventsTaken_quiet _ fun h => ?_
      rw [s.countPeriod_session]
      exact SessionRec.counted_short (by simpa only [Open, Bool.not_eq_true] using hquiet h)
    have hdeclares := State.countPeriod_declares hreset hpresent
    have hbefore := s.countPeriod_touches
    by_cases hback : s.tb.monitor.verdict = .absent ∧ s.tb.monitor.edgeSeen = true ∧ 1 ≤ s.tb.monitor.withEdge
    · have hv : s.countPeriod.tb.monitor.verdict = .absent := by
        rw [s.countPeriod_tb, RefMonitor.counted_absent hback.1]
        exact hback.1
      have hafter := s.countPeriod.declarePresent_touches
      rw [if_pos (hdeclares.mpr hback), State.declare_absent _ hv] at hcounted
      rw [hcounted]
      refine ⟨?_, (hafter.entries rfl).trans (hbefore.entries rfl), (hafter.uses rfl).trans (hbefore.uses rfl),
        (hafter.lines rfl).trans (hbefore.lines rfl), (hafter.claims rfl).trans (hbefore.claims rfl),
        (hafter.channels rfl).trans (hbefore.channels rfl), (hafter.reflexes rfl).trans (hbefore.reflexes rfl), fun h => ?_⟩
      · rw [State.declarePresent_tb, s.countPeriod_tb]
        rfl
      · have htold := (s.countPeriod.setTb_tellMode_tells (t := s.countPeriod.tb.refBack) rfl rfl rfl .refBack).receives h
        rw [s.countPeriod_news, s.countPeriod_tb] at htold
        rw [if_pos hback]
        refine State.countPeriod_receives (Eq.trans ?_ htold)
        rw [State.declarePresent, s.countPeriod_tb]
        rfl
    · rw [if_neg (mt hdeclares.mp hback)] at hcounted
      rw [hcounted]
      refine ⟨?_, hbefore.entries rfl, hbefore.uses rfl, hbefore.lines rfl, hbefore.claims rfl, hbefore.channels rfl,
        hbefore.reflexes rfl, fun h => ?_⟩
      · rw [s.countPeriod_tb]
      · rw [if_neg hback]
        exact congrArg (·.get h) (hbefore.notices rfl)

end Sys2Proof.Machine
end

section
/-! A line's records go together (R82, R85, R86): what the claim table's changes keep of them. -/

set_option Elab.async false

namespace Sys2Proof.Machine

open Sys2Proof.Safety

/-! ## Counting hosts -/

theorem hostCount_zero_iff (q : HostSet) : hostCount q = 0 ↔ ∀ k, q.get k = false := by
  rw [hostCount, List.length_eq_zero_iff, List.eq_nil_iff_forall_not_mem]
  simp only [mem_hostsIn, Bool.not_eq_true]

theorem hostCount_pos_iff (q : HostSet) : 1 ≤ hostCount q ↔ ∃ k, q.get k = true := by
  rw [Nat.one_le_iff_ne_zero, Ne, hostCount_zero_iff]
  simp

theorem hostCount_one_iff (q : HostSet) : hostCount q = 1 ↔ ∃ h, onlyHost q h = true := by
  have hnodup : (hostsIn q).Nodup := allHosts_nodup.filter _
  simp only [onlyHost_iff]
  constructor
  · intro hone
    obtain ⟨h, hh⟩ := List.length_eq_one_iff.mp hone
    refine ⟨h, (mem_hostsIn q h).mp (by rw [hh]; exact List.mem_singleton_self h), fun k hk => Bool.eq_false_iff.mpr fun hb => hk ?_⟩
    have hmem := (mem_hostsIn q k).mpr hb
    rw [hh] at hmem
    exact List.mem_singleton.mp hmem
  · rintro ⟨h, hin, hout⟩
    have hperm : (hostsIn q).Perm [h] := (List.perm_ext_iff_of_nodup hnodup (List.nodup_singleton h)).mpr fun k => by
      rw [mem_hostsIn, List.mem_singleton]
      refine ⟨fun hk => by_contra fun hne => ?_, fun hk => hk ▸ hin⟩
      exact absurd hk (ne_true_of_eq_false (hout k hne))
    exact hperm.length_eq

/-! ## A sound claim record -/

/-- A claim record with the holders and the places that its state admits (R85, R86). -/
structure ClaimSound (c : ClaimRec) : Prop where
  free : c.state = .free → (∀ k, c.holders.get k = false) ∧ c.waiting = [] ∧ c.policy = .refuse
  exclusive : c.state = .exclusive → (∃ h, onlyHost c.holders h = true) ∧ c.policy = .refuse
  shared : c.state = .shared → ∃ h, c.holders.get h = true
  places : (c.waiting.map Place.host).Nodup
  apart : ∀ w ∈ c.waiting, c.holders.get w.host = false
  head : c.state = .shared → ∀ w ∈ c.waiting.head?, w.ask.mode = .exclusive

/-- The claim record is sound, and a FREE line's output record is cleared (R82). -/
structure LineSound (c : ClaimRec) (r : OutputRec) : Prop where
  claim : ClaimSound c
  cleared : c.state = .free → r = .cleared

/-- What host `k` holds of a line it still holds in a later record, which has the same state and policy (R90, R92, R95). -/
def ClaimRec.Serves (c d : ClaimRec) (k : HostId) : Prop :=
  c.holders.get k = true → d.holders.get k = true ∧ d.state = c.state ∧ d.policy = c.policy

/-- A host holds or waits. -/
def ClaimRec.Has (c : ClaimRec) (k : HostId) : Prop := c.holders.get k = true ∨ c.awaitedBy k = true

theorem ClaimRec.Serves.refl (c : ClaimRec) (k : HostId) : c.Serves c k := fun hk => ⟨hk, rfl, rfl⟩

theorem const_false_get (k : HostId) : (Quad.const false).get k = false := by cases k <;> rfl

theorem ClaimSound.cleared : ClaimSound .cleared where
  free _ := ⟨const_false_get, rfl, rfl⟩
  exclusive := nofun
  shared := nofun
  places := List.nodup_nil
  apart := nofun
  head := nofun

theorem single_get (h k : HostId) : ((Quad.const false).set h true).get k = decide (k = h) := by
  rw [Quad.get_set]
  by_cases hk : k = h <;> simp [hk]

theorem onlyHost_single (h : HostId) : onlyHost ((Quad.const false).set h true) h = true := by
  rw [onlyHost_iff]
  refine ⟨by rw [single_get]; exact decide_eq_true rfl, fun k hk => ?_⟩
  rw [single_get]
  exact decide_eq_false hk

theorem Place.mode_of_not_shared {w : Place} (h : ¬ w.wantsShared = true) : w.ask.mode = .exclusive := by
  have hnot : ¬ w.ask.mode = .shared := fun hb => h (decide_eq_true hb)
  cases hm : w.ask.mode with
  | exclusive => rfl
  | shared => exact absurd hm hnot

/-- The places behind a run are headed by an EXCLUSIVE one (R93). -/
theorem afterRun_head (ws : List Place) : ∀ w ∈ (afterRun ws).head?, w.ask.mode = .exclusive := by
  intro w hw
  have hnot := List.head?_dropWhile_not Place.wantsShared ws
  rw [← afterRun, Option.mem_def.mp hw] at hnot
  exact Place.mode_of_not_shared (by simpa using hnot)

theorem afterRun_sublist (ws : List Place) : (afterRun ws).Sublist ws := List.dropWhile_sublist _

theorem sharedRun_append (ws : List Place) : sharedRun ws ++ afterRun ws = ws := List.takeWhile_append_dropWhile

/-- A host behind a run is not in it, since none stands twice (R86). -/
theorem run_apart {ws : List Place} (hn : (ws.map Place.host).Nodup) {w : Place} (hw : w ∈ afterRun ws) :
    ∀ x ∈ sharedRun ws, x.host ≠ w.host := by
  intro x hx heq
  rw [← sharedRun_append ws, List.map_append] at hn
  exact (List.nodup_append.mp hn).2.2 x.host (List.mem_map_of_mem hx) w.host (List.mem_map_of_mem hw) heq

/-! ## What the claim table's changes keep -/

theorem ClaimRec.grantedTo_sound (h : HostId) (ask : Ask) : ClaimSound (.grantedTo h ask) := by
  cases ask with
  | exclusive =>
    exact
      { free := nofun, exclusive := fun _ => ⟨⟨h, onlyHost_single h⟩, rfl⟩, shared := nofun, places := List.nodup_nil, apart := nofun
        head := nofun }
  | shared policy =>
    exact
      { free := nofun, exclusive := nofun, shared := fun _ => ⟨h, (single_get h h).trans (decide_eq_true rfl)⟩
        places := List.nodup_nil, apart := nofun, head := fun _ => nofun }

namespace ClaimSound

variable {c : ClaimRec} (hc : ClaimSound c) (h : HostId)

include hc

/-- A member more joins a SHARED line with an empty wait list (R89). -/
theorem joined (hshared : c.state = .shared) (hnone : c.waiting = []) : ClaimSound { c with holders := c.holders.set h true } where
  free hf := nomatch hf.symm.trans hshared
  exclusive he := nomatch he.symm.trans hshared
  shared _ := ⟨h, Quad.get_set_same ..⟩
  places := hc.places
  apart w hw := absurd hw (by rw [hnone]; exact List.not_mem_nil)
  head := hc.head

/-- A place more at the end of the wait list (R90). -/
theorem queued {ask : Ask} (settings : LineSettings) (hclaimed : c.state ≠ .free)
    (hshared : c.state = .shared → c.waiting = [] → ask.mode = .exclusive) (hout : c.holders.get h = false)
    (hnew : c.awaitedBy h = false) : ClaimSound { c with waiting := c.waiting ++ [⟨h, ask, settings⟩] } where
  free hf := absurd hf hclaimed
  exclusive := hc.exclusive
  shared := hc.shared
  places := by
    rw [List.map_append, List.nodup_append]
    refine ⟨hc.places, List.nodup_singleton _, fun x hx y hy heq => ?_⟩
    obtain ⟨w, hw, rfl⟩ := List.mem_map.mp hx
    exact (c.awaitedBy_eq_false h).mp hnew w hw (heq.trans (List.mem_singleton.mp hy))
  apart w hw := by
    rcases List.mem_append.mp hw with hw | hw
    · exact hc.apart w hw
    · rw [List.mem_singleton.mp hw]
      exact hout
  head hs w hw := by
    cases hwaiting : c.waiting with
    | nil =>
      dsimp only at hw
      rw [hwaiting] at hw
      cases hw
      exact hshared hs hwaiting
    | cons x xs =>
      dsimp only at hw
      rw [hwaiting] at hw
      exact hc.head hs w (by rw [hwaiting]; exact hw)

/-- A place is withdrawn, and the run that it brings to the head of a SHARED line's list is admitted (R95). -/
theorem withdrawn : ClaimSound (c.withdrawn h) := by
  have hplaces : ((c.waiting.filter fun w => decide (w.host ≠ h)).map Place.host).Nodup :=
    hc.places.sublist (List.filter_sublist.map _)
  have hapart : ∀ w ∈ c.waiting.filter fun w => decide (w.host ≠ h), c.holders.get w.host = false :=
    fun w hw => hc.apart w (List.mem_of_mem_filter hw)
  by_cases hshared : c.state = .shared
  · rw [ClaimRec.withdrawn_of_shared h hshared]
    obtain ⟨k, hk⟩ := hc.shared hshared
    exact
      { free := fun hf => nomatch hf.symm.trans hshared
        exclusive := fun he => nomatch he.symm.trans hshared
        shared := fun _ => ⟨k, (addHosts_places _ _ k).mpr (.inl hk)⟩
        places := hplaces.sublist ((afterRun_sublist _).map _)
        apart := fun w hw => Bool.eq_false_iff.mpr fun hb => by
          rcases (addHosts_places _ _ _).mp hb with hin | ⟨x, hx, hxw⟩
          · exact absurd hin (ne_true_of_eq_false (hapart w ((afterRun_sublist _).subset hw)))
          · exact run_apart hplaces hw x hx hxw
        head := fun _ => afterRun_head _ }
  · rw [ClaimRec.withdrawn_of_ne h hshared]
    exact
      { free := fun hf => ⟨(hc.free hf).1, by dsimp only; rw [(hc.free hf).2.1]; rfl, (hc.free hf).2.2⟩
        exclusive := hc.exclusive
        shared := fun hs => absurd hs hshared
        places := hplaces
        apart := hapart
        head := fun hs => absurd hs hshared }

/-- A line that is handed on (R93). -/
theorem handed : ClaimSound c.handed := by
  have hplaces := hc.places
  unfold ClaimRec.handed
  cases hwaiting : c.waiting with
  | nil => exact .cleared
  | cons w rest =>
    rw [hwaiting] at hplaces
    dsimp only
    cases hask : w.ask with
    | exclusive =>
      obtain ⟨hout, hrest⟩ := List.nodup_cons.mp hplaces
      exact
        { free := nofun, exclusive := fun _ => ⟨⟨w.host, onlyHost_single _⟩, rfl⟩, shared := nofun, places := hrest
          apart := fun x hx => (single_get _ _).trans (decide_eq_false fun heq => hout (List.mem_map.mpr ⟨x, hx, heq⟩))
          head := nofun }
    | shared policy =>
      have hin : w ∈ sharedRun (w :: rest) := by
        rw [sharedRun, List.takeWhile_cons_of_pos (w.wantsShared_iff.mpr (by simp [hask]))]
        exact List.mem_cons_self
      exact
        { free := nofun, exclusive := nofun
          shared := fun _ => ⟨w.host, (addHosts_places _ _ _).mpr (.inr ⟨w, hin, rfl⟩)⟩
          places := hplaces.sublist ((afterRun_sublist _).map _)
          apart := fun x hx => Bool.eq_false_iff.mpr fun hb => by
            rcases (addHosts_places _ _ _).mp hb with hfirst | ⟨y, hy, hyx⟩
            · exact absurd hfirst (ne_true_of_eq_false (const_false_get _))
            · exact run_apart hplaces hx y hy hyx
          head := fun _ => afterRun_head _ }

/-- A member of several leaves (R92). -/
theorem lacking (hin : c.holders.get h = true) (hothers : ¬ noHosts (c.lacking h).holders = true) : ClaimSound (c.lacking h) := by
  obtain ⟨k, hk⟩ : ∃ k, (c.lacking h).holders.get k = true := by simpa [noHosts_iff] using hothers
  have hget (j : HostId) : (c.lacking h).holders.get j = true → j ≠ h ∧ c.holders.get j = true := by
    intro hj
    rw [ClaimRec.lacking, Quad.get_set] at hj
    split at hj
    · cases hj
    · exact ⟨‹_›, hj⟩
  exact
    { free := fun hf => absurd hin (ne_true_of_eq_false ((hc.free hf).1 h))
      exclusive := fun he => by
        obtain ⟨⟨j, hj⟩, -⟩ := hc.exclusive he
        obtain ⟨-, hnone⟩ := (onlyHost_iff _ j).mp hj
        have heach (i : HostId) (hi : c.holders.get i = true) : i = j := by_contra fun hne => by rw [hnone i hne] at hi; cases hi
        exact absurd ((heach k (hget k hk).2).trans (heach h hin).symm) (hget k hk).1
      shared := fun _ => ⟨k, hk⟩
      places := hc.places
      apart := fun w hw => Bool.eq_false_iff.mpr fun hb => absurd (hget w.host hb).2 (ne_true_of_eq_false (hc.apart w hw))
      head := hc.head }

/-- A holder leaves, and the line passes on where it was the last (R92, R93). -/
theorem left (hin : c.holders.get h = true) : ClaimSound (c.left h) := by
  unfold ClaimRec.left
  split
  · exact hc.handed
  · exact hc.lacking h hin ‹_›

/-- A host's session has ended (R100). -/
theorem endedBy : ClaimSound (c.endedBy h) := by
  unfold ClaimRec.endedBy
  split
  · exact hc.left h ‹_›
  · split
    · exact hc.withdrawn h
    · exact hc

end ClaimSound

theorem ClaimRec.handedOutput_cleared {c : ClaimRec} (mode : TbMode) (h : c.handed.state = .free) : c.handedOutput mode = .cleared := by
  unfold ClaimRec.handed at h
  unfold ClaimRec.handedOutput
  cases hwaiting : c.waiting with
  | nil => rfl
  | cons w rest =>
    rw [hwaiting] at h
    dsimp only at h
    cases hask : w.ask <;> rw [hask] at h <;> cases h

namespace LineSound

variable {c : ClaimRec} {r : OutputRec} (hl : LineSound c r) (h : HostId) (mode : TbMode)

include hl

theorem left (hin : c.holders.get h = true) : LineSound (c.left h) (c.leftOutput h mode r) := by
  refine ⟨hl.claim.left h hin, fun hf => ?_⟩
  unfold ClaimRec.left at hf
  unfold ClaimRec.leftOutput
  split
  · next hnone =>
    rw [if_pos hnone] at hf
    exact ClaimRec.handedOutput_cleared mode hf
  · next hsome =>
    rw [if_neg hsome] at hf
    exact hl.cleared hf

theorem withdrawn : LineSound (c.withdrawn h) r := by
  refine ⟨hl.claim.withdrawn h, fun hf => hl.cleared ?_⟩
  unfold ClaimRec.withdrawn ClaimRec.admitted at hf
  split at hf <;> exact hf

theorem endedBy : LineSound (c.endedBy h) (c.endedOutput h mode r) := by
  unfold ClaimRec.endedBy ClaimRec.endedOutput
  split
  · exact hl.left h mode ‹_›
  · split
    · exact hl.withdrawn h
    · exact hl

end LineSound

/-! ## Who holds and who waits behind a change -/

namespace ClaimRec

variable (c : ClaimRec) (h k : HostId)

theorem has_of_place {c : ClaimRec} {w : Place} (hw : w ∈ c.waiting) : c.Has w.host := .inr ((c.awaitedBy_iff _).mpr ⟨w, hw, rfl⟩)

theorem lacking_has (hk : (c.lacking h).Has k) : c.Has k := by
  rcases hk with hk | hk
  · rw [lacking, Quad.get_set] at hk
    split at hk
    · cases hk
    · exact .inl hk
  · exact .inr hk

theorem handed_has (hk : c.handed.Has k) : c.Has k := by
  by_contra hno
  have hne : ∀ w ∈ c.waiting, w.host ≠ k := fun w hw heq => hno (heq ▸ has_of_place hw)
  obtain ⟨hout, hwaits⟩ := handed_without hne
  rcases hk with hk | hk
  · exact absurd hk (ne_true_of_eq_false hout)
  · exact absurd hk (ne_true_of_eq_false ((awaitedBy_eq_false _ k).mpr hwaits))

theorem withdrawn_has (hk : (c.withdrawn h).Has k) : c.Has k := by
  rcases hk with hk | hk
  · by_cases hshared : c.state = .shared
    · rw [withdrawn_of_shared h hshared] at hk
      rcases (addHosts_places _ _ k).mp hk with hin | ⟨x, hx, rfl⟩
      · exact .inl hin
      · exact has_of_place (List.mem_of_mem_filter ((List.takeWhile_sublist _).subset hx))
    · rw [withdrawn_of_ne h hshared] at hk
      exact .inl hk
  · obtain ⟨w, hw, rfl⟩ := (awaitedBy_iff _ k).mp hk
    exact has_of_place (mem_withdrawn hw).1

theorem left_has (hk : (c.left h).Has k) : c.Has k := by
  unfold left at hk
  split at hk
  · exact c.handed_has k hk
  · exact c.lacking_has h k hk

theorem endedBy_has (hk : (c.endedBy h).Has k) : c.Has k := by
  unfold endedBy at hk
  split at hk
  · exact c.left_has h k hk
  · split at hk
    · exact c.withdrawn_has h k hk
    · exact hk

/-! ## The holders that stay -/

variable {c h k}

theorem serves_withdrawn : c.Serves (c.withdrawn h) k := by
  intro hk
  by_cases hshared : c.state = .shared
  · rw [withdrawn_of_shared h hshared]
    exact ⟨(addHosts_places _ _ k).mpr (.inl hk), rfl, rfl⟩
  · rw [withdrawn_of_ne h hshared]
    exact ⟨hk, rfl, rfl⟩

theorem serves_left (hne : k ≠ h) : c.Serves (c.left h) k := by
  intro hk
  have hkept : (c.lacking h).holders.get k = true := (Quad.get_set_ne _ _ hne).trans hk
  have hsome : ¬ noHosts (c.lacking h).holders = true := fun hb => absurd hkept (ne_true_of_eq_false ((noHosts_iff _).mp hb k))
  rw [left, if_neg hsome]
  exact ⟨hkept, rfl, rfl⟩

theorem serves_endedBy (hne : k ≠ h) : c.Serves (c.endedBy h) k := by
  unfold endedBy
  split
  · exact serves_left hne
  · split
    · exact serves_withdrawn
    · exact .refl c k

theorem serves_joined : c.Serves { c with holders := c.holders.set h true } k := by
  intro hk
  refine ⟨?_, rfl, rfl⟩
  rw [Quad.get_set]
  split
  · rfl
  · exact hk

end ClaimRec

end Sys2Proof.Machine
end

section
/-! The holdings of the four hosts (R7, R8, R13, R85, R104, R122, R149): what stands with what, and the changes that keep it. -/

set_option Elab.async false

namespace Sys2Proof.Machine

open Sys2Proof.Safety

/-! ## What stands with what -/

/-- The session record of R149 and R152: nothing runs in a closed one. -/
structure SessionSound (r : SessionRec) : Prop where
  closed : r.isOpen = false → r.timer = none ∧ r.silenceLimit = 0 ∧ r.watch = false
  opened : r.isOpen = true → r.endCause = .none ∧ (r.timer.isSome = true ↔ 0 < r.silenceLimit)

/-- Host `h` is open and may have a deed in the schedule or the reflex table (R7, R8, R122). -/
structure Backed (s : State) (h : HostId) (d : Deed) : Prop where
  isOpen : Open s h
  line : ∀ l ∈ d.line, (s.claim l).holders.get h = true
  channel : ∀ c ∈ d.rearms, (s.channel c).subscribers.get h = true
  toggle : s.toggleShared d = false

/-- Host `h` subscribes, holds, waits or has the hold. -/
def Member (s : State) (h : HostId) : Prop :=
  (∃ c, (s.channel c).subscribers.get h = true) ∨ (∃ l, (s.claim l).Has h) ∨ s.tb.holder = some h

/-- Two entries do not collide (R13). -/
def Apart (s : State) (x y : Entry) : Prop :=
  ∀ l : LineId, x.deed.line = some l → y.deed.line = some l → (s.claim l).refusing = true → x.due ≠ y.due

/-- The holdings of the four hosts, with the slots of the schedule. -/
structure Holdings (s : State) : Prop where
  slots : (s.entries.map fun e => e.handle.slot).Nodup
  backed : ∀ e ∈ s.entries, Backed s e.owner e.deed
  apart : s.entries.Pairwise (Apart s)
  reflexes : ∀ c, ∀ r ∈ s.reflex c, (s.channel c).subscribers.get r.owner = true ∧ Backed s r.owner r.deed.deed
  lines : ∀ l, LineSound (s.claim l) (s.line l)
  members : ∀ h, Member s h → Open s h
  sessions : ∀ h, SessionSound (s.session h)

theorem Apart.symm {s : State} {x y : Entry} (h : Apart s x y) : Apart s y x := fun l hy hx hr => (h l hx hy hr).symm

theorem ReflexDeed.deed_rearms (d : ReflexDeed) : d.deed.rearms = none := by cases d <;> rfl

/-! ## A change that leaves some holdings and takes others -/

/-- What the hosts lose from `s` to `t`: host `k` holds line `l` no longer where `lost k l`, and channel `c` where `left k c`. -/
structure Transfers (s t : State) (lost : HostId → LineId → Prop) (left : HostId → ChannelId → Prop) : Prop where
  lines : ∀ l k, ¬ lost k l → (s.claim l).Serves (t.claim l) k
  channels : ∀ c k, ¬ left k c → (s.channel c).subscribers.get k = true → (t.channel c).subscribers.get k = true

namespace Transfers

variable {s t : State} {lost : HostId → LineId → Prop} {left : HostId → ChannelId → Prop} (h : Transfers s t lost left)

include h

theorem backed {k : HostId} {d : Deed} (hb : Backed s k d) (ho : Open t k) (hlines : ∀ l ∈ d.line, ¬ lost k l)
    (hchannels : ∀ c ∈ d.rearms, ¬ left k c) : Backed t k d := by
  refine ⟨ho, fun l hl => (h.lines l k (hlines l hl) (hb.line l hl)).1, fun c hc => h.channels c k (hchannels c hc) (hb.channel c hc), ?_⟩
  refine Bool.eq_false_iff.mpr fun htoggle => ?_
  obtain ⟨l, rfl, hshared⟩ := (t.toggleShared_iff d).mp htoggle
  obtain ⟨-, hstate, -⟩ := h.lines l k (hlines l rfl) (hb.line l rfl)
  exact absurd ((s.toggleShared_iff _).mpr ⟨l, rfl, hstate.symm.trans hshared⟩) (ne_true_of_eq_false hb.toggle)

theorem apart {x y : Entry} (ha : Apart s x y) (hb : Backed s x.owner x.deed) (hlines : ∀ l ∈ x.deed.line, ¬ lost x.owner l) :
    Apart t x y := by
  intro l hx hy hr
  obtain ⟨-, hstate, hpolicy⟩ := h.lines l x.owner (hlines l hx) (hb.line l hx)
  refine ha l hx hy ?_
  rw [ClaimRec.refusing, ← hstate, ← hpolicy]
  exact hr

end Transfers

/-- What stands of the schedule and the reflex table behind such a change is what nobody has lost. -/
theorem Holdings.transfer {s t : State} (hs : Holdings s) {lost : HostId → LineId → Prop} {left : HostId → ChannelId → Prop}
    (h : Transfers s t lost left) (hentries : t.entries.Sublist s.entries)
    (hkept : ∀ e ∈ t.entries, Open t e.owner ∧ (∀ l ∈ e.deed.line, ¬ lost e.owner l) ∧ ∀ c ∈ e.deed.rearms, ¬ left e.owner c)
    (hreflexes : ∀ c, ∀ r ∈ t.reflex c, r ∈ s.reflex c ∧ Open t r.owner ∧ ¬ left r.owner c ∧ ∀ l ∈ r.deed.deed.line, ¬ lost r.owner l)
    (hlines : ∀ l, LineSound (t.claim l) (t.line l)) (hmembers : ∀ k, Member t k → Open t k)
    (hsessions : ∀ k, SessionSound (t.session k)) : Holdings t where
  slots := hs.slots.sublist (hentries.map _)
  backed e he := by
    obtain ⟨ho, hl, hc⟩ := hkept e he
    exact h.backed (hs.backed e (hentries.subset he)) ho hl hc
  apart := (hs.apart.sublist hentries).imp_of_mem fun hx _ ha =>
    h.apart ha (hs.backed _ (hentries.subset hx)) (hkept _ hx).2.1
  reflexes c r hr := by
    obtain ⟨hin, ho, hc, hl⟩ := hreflexes c r hr
    obtain ⟨hsub, hb⟩ := hs.reflexes c r hin
    refine ⟨h.channels c r.owner hc hsub, h.backed hb ho hl fun d hd => ?_⟩
    rw [r.deed.deed_rearms] at hd
    cases hd
  lines := hlines
  members := hmembers
  sessions := hsessions

/-! ## A change that leaves every holding -/

/-- Nobody gains or loses a holding, a session or the hold from `s` to `t`, and no FREE line moves. -/
structure Carries (s t : State) : Prop where
  claims : t.claims = s.claims
  subscribers : ∀ c, (t.channel c).subscribers = (s.channel c).subscribers
  reflexes : t.reflexes = s.reflexes
  isOpen : ∀ h, (t.session h).isOpen = (s.session h).isOpen
  sound : ∀ h, SessionSound (s.session h) → SessionSound (t.session h)
  holder : t.tb.holder = s.tb.holder
  lines : ∀ l, (s.claim l).state = .free → t.line l = s.line l

namespace Carries

variable {s t u : State}

theorem refl (s : State) : Carries s s := ⟨rfl, fun _ => rfl, rfl, fun _ => rfl, fun _ h => h, rfl, fun _ _ => rfl⟩

/-- What the subscribers, the hold and the FREE lines see decides, where the claims, the reflexes and the sessions stand. -/
theorem of_parts {m : Touched} (h : OnlyTouches m s t) (hsub : ∀ c, (t.channel c).subscribers = (s.channel c).subscribers)
    (hholder : t.tb.holder = s.tb.holder) (hlines : ∀ l, (s.claim l).state = .free → t.line l = s.line l)
    (hc : m.claims = false := by rfl) (hr : m.reflexes = false := by rfl) (ho : m.sessions = false := by rfl) : Carries s t := by
  refine ⟨h.claims hc, hsub, h.reflexes hr, fun k => ?_, fun k hk => ?_, hholder, hlines⟩
  · rw [State.session, h.sessions ho]
  · rw [State.session, h.sessions ho]
    exact hk

theorem of_touches {m : Touched} (h : OnlyTouches m s t) (htb : m.tb = false := by rfl) (hl : m.lines = false := by rfl)
    (hc : m.claims = false := by rfl) (hk : m.channels = false := by rfl) (hr : m.reflexes = false := by rfl)
    (ho : m.sessions = false := by rfl) : Carries s t :=
  of_parts h (fun c => by rw [State.channel, h.channels hk]) (by rw [h.tb htb]) (fun l _ => by rw [State.line, h.lines hl]) hc hr ho

theorem setTb (s : State) (t : Timebase) (h : t.holder = s.tb.holder := by rfl) : Carries s (s.setTb t) :=
  ⟨rfl, fun _ => rfl, rfl, fun _ => rfl, fun _ h => h, h, fun _ _ => rfl⟩

theorem setSession (s : State) (h : HostId) {r : SessionRec} (ho : r.isOpen = (s.session h).isOpen)
    (hsound : SessionSound (s.session h) → SessionSound r) : Carries s (s.setSession h r) := by
  refine ⟨rfl, fun _ => rfl, rfl, fun k => ?_, fun k hk => ?_, rfl, fun _ _ => rfl⟩
  · rw [State.session_setSession]
    split
    · next heq => rw [ho, heq]
    · rfl
  · rw [State.session_setSession]
    split
    · next heq => exact hsound (heq ▸ hk)
    · exact hk

theorem mapLines (s : State) (f : LineId → OutputRec → OutputRec) (h : ∀ l r, (s.claim l).state = .free → f l r = r) :
    Carries s (s.mapLines f) :=
  ⟨rfl, fun _ => rfl, rfl, fun _ => rfl, fun _ h => h, rfl, fun l hl => (s.line_mapLines f l).trans (h l _ hl)⟩

theorem setLine (s : State) (l : LineId) (r : OutputRec) (h : (s.claim l).state ≠ .free) : Carries s (s.setLine l r) := by
  refine ⟨rfl, fun _ => rfl, rfl, fun _ => rfl, fun _ h => h, rfl, fun m hm => ?_⟩
  have hne : m ≠ l := fun heq => h (heq ▸ hm)
  exact (s.line_setLine l m r).trans (if_neg hne)

theorem setChannel (s : State) (c : ChannelId) {r : ChannelRec} (h : r.subscribers = (s.channel c).subscribers) :
    Carries s (s.setChannel c r) := by
  refine ⟨rfl, fun d => ?_, rfl, fun _ => rfl, fun _ h => h, rfl, fun _ _ => rfl⟩
  rw [State.channel_setChannel]
  split
  · next heq => rw [h, heq]
  · rfl

theorem mapChannels (s : State) (f : ChannelId → ChannelRec → ChannelRec) (h : ∀ c r, (f c r).subscribers = r.subscribers) :
    Carries s (s.mapChannels f) := by
  refine ⟨rfl, fun d => ?_, rfl, fun _ => rfl, fun _ h => h, rfl, fun _ _ => rfl⟩
  rw [State.channel_mapChannels, h]

theorem trans (h : Carries s t) (k : Carries t u) : Carries s u where
  claims := k.claims.trans h.claims
  subscribers c := (k.subscribers c).trans (h.subscribers c)
  reflexes := k.reflexes.trans h.reflexes
  isOpen j := (k.isOpen j).trans (h.isOpen j)
  sound j hj := k.sound j (h.sound j hj)
  holder := k.holder.trans h.holder
  lines l hl := (k.lines l (by rw [State.claim, h.claims]; exact hl)).trans (h.lines l hl)

theorem foldl {α : Type} {take : State → α → State} (h : ∀ t x, Carries t (take t x)) (xs : List α) (s : State) :
    Carries s (xs.foldl take s) := by
  induction xs generalizing s with
  | nil => exact .refl s
  | cons x xs ih => exact (h s x).trans (ih _)

variable (h : Carries s t)

include h

theorem claim (l : LineId) : t.claim l = s.claim l := congrArg (·[l]) h.claims

theorem reflex (c : ChannelId) : t.reflex c = s.reflex c := congrArg (·[c]) h.reflexes

theorem opens {k : HostId} (ho : Open s k) : Open t k := (h.isOpen k).trans ho

theorem transfers : Transfers s t (fun _ _ => False) fun _ _ => False where
  lines l k _ := by rw [h.claim l]; exact .refl _ k
  channels c k _ hk := by rw [h.subscribers c]; exact hk

theorem backed {k : HostId} {d : Deed} (hb : Backed s k d) : Backed t k d :=
  h.transfers.backed hb (h.opens hb.isOpen) (fun _ _ => id) fun _ _ => id

theorem member {k : HostId} (hm : Member t k) : Member s k := by
  rcases hm with ⟨c, hc⟩ | ⟨l, hl⟩ | hh
  · exact .inl ⟨c, by rw [← h.subscribers c]; exact hc⟩
  · exact .inr (.inl ⟨l, by rw [← h.claim l]; exact hl⟩)
  · exact .inr (.inr (h.holder.symm.trans hh))

theorem line (hs : Holdings s) (l : LineId) : LineSound (t.claim l) (t.line l) := by
  rw [h.claim l]
  exact ⟨(hs.lines l).claim, fun hf => (h.lines l hf).trans ((hs.lines l).cleared hf)⟩

/-- A new list, of entries that are backed and apart as things stand. -/
theorem relisted (hs : Holdings s) (hslots : (t.entries.map fun e => e.handle.slot).Nodup)
    (hbacked : ∀ e ∈ t.entries, Backed s e.owner e.deed) (hapart : t.entries.Pairwise (Apart s)) : Holdings t where
  slots := hslots
  backed e he := h.backed (hbacked e he)
  apart := hapart.imp_of_mem fun hx _ ha => h.transfers.apart ha (hbacked _ hx) fun _ _ => id
  reflexes c r hr := by
    obtain ⟨hsub, hb⟩ := hs.reflexes c r (by rw [← h.reflex c]; exact hr)
    exact ⟨by rw [h.subscribers c]; exact hsub, h.backed hb⟩
  lines := h.line hs
  members k hk := h.opens (hs.members k (h.member hk))
  sessions k := h.sound k (hs.sessions k)

theorem shrunk (hs : Holdings s) (hentries : t.entries.Sublist s.entries) : Holdings t :=
  h.relisted hs (hs.slots.sublist (hentries.map _)) (fun e he => hs.backed e (hentries.subset he)) (hs.apart.sublist hentries)

theorem holds (hs : Holdings s) (hentries : t.entries = s.entries := by rfl) : Holdings t := h.shrunk hs (hentries ▸ List.Sublist.refl _)

end Carries

/-- An operation that touches none of the holdings. -/
theorem Holdings.of_touches {s t : State} (hs : Holdings s) {m : Touched} (h : OnlyTouches m s t) (htb : m.tb = false := by rfl)
    (he : m.entries = false := by rfl) (hl : m.lines = false := by rfl) (hc : m.claims = false := by rfl)
    (hk : m.channels = false := by rfl) (hr : m.reflexes = false := by rfl) (ho : m.sessions = false := by rfl) : Holdings t :=
  (Carries.of_touches h htb hl hc hk hr ho).holds hs (h.entries he)

/-! ## The schedule -/

namespace Holdings

variable {s t : State} (hs : Holdings s)

include hs

theorem setTb (t : Timebase) (h : t.holder = s.tb.holder := by rfl) : Holdings (s.setTb t) := (Carries.setTb s t h).holds hs

theorem leave (e : Entry) : Holdings (s.leave e) := (Carries.of_touches (s.leave_touches e)).shrunk hs List.eraseP_sublist

theorem removeEntries (goes : Entry → Bool) (news : Handle → Option NoticeBody) : Holdings (s.removeEntries goes news) := by
  refine (Carries.of_touches (s.removeEntries_touches goes news)).shrunk hs ?_
  rw [s.removeEntries_entries goes news hs.slots]
  exact List.filter_sublist

/-- An entry joins the list, or goes back to it (R14, R18). -/
theorem placed (h : Carries s t) {e : Entry} {rest : List Entry} (hsub : rest.Sublist s.entries)
    (hentries : t.entries.Perm (e :: rest)) (hslot : ∀ x ∈ rest, x.handle.slot ≠ e.handle.slot) (hb : Backed s e.owner e.deed)
    (hfree : ∀ l ∈ e.deed.line, (s.claim l).refusing = true → ∀ x ∈ rest, x.deed.line = some l → x.due ≠ e.due) : Holdings t := by
  refine h.relisted hs ?_ (fun x hx => ?_) ?_
  · rw [(hentries.map _).nodup_iff, List.map_cons, List.nodup_cons]
    refine ⟨fun hm => ?_, hs.slots.sublist (hsub.map _)⟩
    obtain ⟨x, hx, hxe⟩ := List.mem_map.mp hm
    exact hslot x hx hxe
  · rcases List.mem_cons.mp (hentries.subset hx) with rfl | hx
    · exact hb
    · exact hs.backed x (hsub.subset hx)
  · rw [hentries.pairwise_iff fun h => h.symm, List.pairwise_cons]
    exact ⟨fun x hx l hl hxl hr => (hfree l hl hr x hx hxl).symm, hs.apart.sublist hsub⟩

theorem insert {o : Offer} {handle : Handle} (h : s.insert o = .joined t handle) (ho : Open s o.owner) : Holdings t := by
  obtain ⟨i, hpass, hfree, rfl, -⟩ := State.insert_joined h
  refine hs.placed (Carries.of_touches (s.setEntries_touches _)) (List.Sublist.refl _) (placeEntry_perm _ _ _)
    (State.lowestFree_free hfree) ⟨ho, fun l hl => ?_, fun c hc => ?_, hpass.toggle⟩ fun l hl hr x hx hxl hdue => ?_
  · refine Bool.eq_true_of_not_eq_false fun hout => ?_
    exact nomatch hpass.owned.symm.trans (s.ownershipFails_notOwner o hl hout)
  · refine Bool.eq_true_of_not_eq_false fun hout => ?_
    exact nomatch hpass.owned.symm.trans (s.ownershipFails_notSubscribed o hc hout)
  · exact absurd ((s.offerCollides_iff o).mpr ⟨l, hl, hr, x, hx, hxl, hdue⟩) (ne_true_of_eq_false hpass.free)

end Holdings

/-! ## Firing -/

theorem State.rearm_carries (s : State) (c : ChannelId) : Carries s (s.rearm c) := by
  unfold State.rearm
  split
  · exact .refl s
  · exact .setChannel s c rfl

theorem State.rearmBy_carries (s : State) (d : Deed) : Carries s (s.rearmBy d) := by
  unfold State.rearmBy
  split
  · exact s.rearm_carries _
  · exact .refl s

theorem State.conclude_carries (s : State) (late : Bool) (e : Entry) : Carries s (s.conclude late e) := by
  have h := s.conclude_touches late e
  refine .of_parts h (fun c => ?_) (by rw [h.tb rfl]) fun l _ => by rw [State.line, h.lines rfl]
  rw [State.channel, s.conclude_rearms late]
  exact (s.rearmBy_carries e.deed).subscribers c

theorem State.overtakeOne_carries (s : State) (e : Entry) : Carries s (s.overtakeOne e) := by
  unfold State.overtakeOne
  split
  · exact s.conclude_carries true e
  · exact .of_touches (s.expire_touches e)

theorem State.claimedLines_carries (s : State) (f : OutputRec → OutputRec) : Carries s (s.claimedLines f) :=
  .mapLines s _ fun _ _ hfree => if_pos hfree

theorem State.applyGroups_carries (s : State) (fires : List Entry) : Carries s (s.applyGroups fires) := by
  rw [State.applyGroups_eq]
  exact .mapLines s _ fun _ _ hfree => grouped_free hfree _

theorem State.sampleAll_carries (s : State) (f : Filter) : Carries s (s.sampleAll f) :=
  .mapChannels s _ fun _ r => by
    unfold ChannelRec.sample
    split <;> rfl

theorem State.reinsertFails_free {s : State} {e : Entry} {due : Time} (h : s.reinsertFails e due = none) :
    ∀ l ∈ e.deed.line, s.collides l due = false := by
  intro l hl
  unfold State.reinsertFails at h
  split at h
  · cases h
  · rw [Option.mem_def.mp hl] at h
    dsimp only at h
    split at h
    · cases h
    · exact Bool.eq_false_iff.mpr ‹_›

/-- Two due times with the lead and the phase of one restart are one (R22). -/
theorem relabelled_inj {cur : BitVec 16} {x y : Time}
    (h : (⟨BitVec.ofNat 16 (leadOf cur x.frame), x.phase⟩ : Time) = ⟨BitVec.ofNat 16 (leadOf cur y.frame), y.phase⟩) : x = y := by
  obtain ⟨hframe, hphase⟩ := Time.mk.inj h
  refine Time.eq_of_parts ?_ hphase
  unfold leadOf at hframe
  bv_omega

namespace Holdings

variable {s t : State} (hs : Holdings s)

include hs

theorem conclude (late : Bool) {e : Entry} (hb : Backed s e.owner e.deed) : Holdings (s.conclude late e) := by
  have hcarries := s.conclude_carries late e
  rcases s.conclude_listed late e with ⟨hentries, -⟩ | ⟨r, -, -, hok, hentries, -⟩
  · exact hcarries.shrunk hs (by rw [hentries]; exact List.eraseP_sublist)
  · have hout := State.takeOut_entries (e := e) hs.slots
    refine hs.placed hcarries (e := e.next r) (rest := (s.takeOut e).entries) List.eraseP_sublist
      (by rw [hentries]; exact placeEntry_perm _ _ _) (fun x hx => ?_) hb fun l hl hr x hx hxl hdue => ?_
    · rw [hout, List.mem_filter, decide_eq_true_eq] at hx
      exact hx.2
    · have hfree : (s.takeOut e).collides l (e.nextDue r.period) = false := State.reinsertFails_free hok l hl
      exact absurd (((s.takeOut e).collides_iff l _).mpr ⟨hr, x, hx, hxl, hdue⟩) (ne_true_of_eq_false hfree)

theorem overtakeOne {e : Entry} (hb : Backed s e.owner e.deed) : Holdings (s.overtakeOne e) := by
  unfold State.overtakeOne
  split
  · exact hs.conclude true hb
  · exact (hs.leave e).of_touches (State.notify_touches _ _ _)

omit hs in
/-- Entries that leave one after another were backed when the first of them left. -/
theorem dispatched {take : State → Entry → State} (hkeeps : ∀ t e, Holdings t → Backed t e.owner e.deed → Holdings (take t e))
    (hcarries : ∀ t e, Carries t (take t e)) (es : List Entry) {s : State} (hs : Holdings s)
    (hes : ∀ e ∈ es, Backed s e.owner e.deed) : Holdings (es.foldl take s) := by
  induction es generalizing s with
  | nil => exact hs
  | cons e es ih =>
    exact ih (hkeeps s e hs (hes e List.mem_cons_self)) fun x hx => (hcarries s e).backed (hes x (List.mem_cons_of_mem _ hx))

theorem applyGroups (fires : List Entry) : Holdings (s.applyGroups fires) := (s.applyGroups_carries fires).holds hs

theorem fireDue : Holdings s.fireDue :=
  dispatched (fun _ _ ht hb => ht.conclude false hb) (fun t e => t.conclude_carries false e) _ (hs.applyGroups _) fun e he =>
    (s.applyGroups_carries _).backed (hs.backed e (List.mem_of_mem_filter he))

theorem overtake : Holdings s.overtake := by
  rw [State.overtake_fold]
  exact dispatched (fun _ _ ht hb => ht.overtakeOne hb) State.overtakeOne_carries _ (hs.applyGroups _) fun e he =>
    (s.applyGroups_carries _).backed (hs.backed e (List.mem_of_mem_filter he))

/-- A restart keeps the lead and the phase of every entry that stays, so that none comes to collide (R22). -/
theorem restart : Holdings s.restart := by
  have hsub : (s.entries.filter fun e => e.recurrence.isSome).Sublist s.entries := List.filter_sublist
  have hcarries : Carries s s.restart :=
    ((Carries.of_touches (s.evict_touches _ _)).trans (.of_touches (State.setEntries_touches _ _))).trans (.setTb _ _)
  refine hcarries.relisted hs ?_ (fun e he => ?_) ?_ <;> rw [s.restart_entries hs.slots, State.restarted] at *
  · rw [List.map_map]
    exact hs.slots.sublist (hsub.map _)
  · obtain ⟨x, hx, rfl⟩ := List.mem_map.mp he
    exact hs.backed x (hsub.subset hx)
  · rw [List.pairwise_map]
    refine (hs.apart.sublist hsub).imp fun ha l hx hy hr hdue => ha l hx hy hr ?_
    exact relabelled_inj hdue

/-! ## The clock -/

theorem setChannel (c : ChannelId) {r : ChannelRec} (h : r.subscribers = (s.channel c).subscribers := by rfl) :
    Holdings (s.setChannel c r) := (Carries.setChannel s c h).holds hs

/-- A reflex offers an entry of its owner, who subscribes to its channel (R126). -/
theorem triggerReflex (c : ChannelId) : Holdings (s.triggerReflex c) := by
  unfold State.triggerReflex
  split
  · exact hs
  · next r hr =>
    split
    · exact hs.insert ‹_› (hs.reflexes c r hr).2.isOpen
    · exact hs.of_touches (State.notify_touches _ _ _)

theorem closeGate (c : ChannelId) : Holdings (s.closeGate c) := by
  unfold State.closeGate
  split
  · exact hs.setChannel c
  · exact hs

theorem captureOn (c : ChannelId) (edge : EdgeDir) : Holdings (s.captureOn c edge) :=
  (((hs.setChannel c).of_touches (State.notifyEach_touches _ _ _ _)).triggerReflex c).closeGate c

theorem settleLevel (c : ChannelId) : Holdings (s.settleLevel c) := by
  have settled : Holdings (s.setChannel c { s.channel c with settled := (s.channel c).pin, filterCount := 0 }) := hs.setChannel c
  unfold State.settleLevel State.takeEdge
  split
  · split
    · exact settled.captureOn c _
    · exact settled.setChannel c
  · exact settled

theorem driveSense (c : ChannelId) (level : Level) : Holdings (s.driveSense c level) := by
  have driven : Holdings (s.setChannel c { s.channel c with pin := level }) := hs.setChannel c
  unfold State.driveSense
  dsimp only
  split
  · exact driven.settleLevel c
  · exact driven

theorem claimedLines (f : OutputRec → OutputRec) : Holdings (s.claimedLines f) := (s.claimedLines_carries f).holds hs

theorem sampleAll (f : Filter) : Holdings (s.sampleAll f) := (s.sampleAll_carries f).holds hs

theorem haltIf (cause : Option TbCause) : Holdings (s.haltIf cause) := by
  cases cause with
  | none => exact hs
  | some cause => exact (hs.setTb _).of_touches (State.tellMode_touches _ _ _)

theorem afterWrap (w : WrapReport) : Holdings (s.afterWrap w) := by
  rw [s.afterWrap_eq]
  exact (((hs.of_touches (s.wrapTold_touches w)).claimedLines _).fireDue).haltIf _

theorem tickEffects (report : Option WrapReport) : Holdings (s.tickEffects report) := by
  have counted : Holdings s.countPulses := hs.claimedLines OutputRec.countDown
  cases report with
  | none => exact counted.fireDue
  | some w => exact counted.afterWrap w

theorem tick : Holdings s.tick := by
  have hticked : s.tb.ticked.holder = s.tb.holder := by
    unfold Timebase.ticked
    split <;> rfl
  refine State.takeAll_holds Holdings _ _ (fun t n ht => ht.of_touches (t.setChoices_touches n)) (fun t ht x _ => ?_) _
    ((hs.setTb s.tb.ticked hticked).sampleAll .tick)
  cases x with
  | edge c => exact ht.settleLevel c
  | main => exact ht.tickEffects _

theorem refclkCycle : Holdings s.refclkCycle := by
  refine State.takeAll_holds Holdings _ _ (fun t n ht => ht.of_touches (t.setChoices_touches n)) (fun t ht x _ => ?_) _
    ((hs.setTb s.tb.cycled).sampleAll .refclk)
  cases x with
  | edge c => exact ht.settleLevel c
  | main => exact ht.tick

omit hs in
theorem refclkCycles (n : Nat) {s : State} (hs : Holdings s) : Holdings (s.refclkCycles n) := by
  induction n generalizing s with
  | zero => exact hs
  | succ n ih => exact ih hs.refclkCycle

theorem runTick : Holdings s.runTick := by
  unfold State.runTick
  split
  · exact refclkCycles _ hs
  · exact hs

theorem alignedWrap : Holdings s.alignedWrap := by
  rw [s.alignedWrap_eq]
  exact (hs.overtake.setTb _).afterWrap _

theorem syncEdge : Holdings s.syncEdge := by
  unfold State.syncEdge
  split
  · unfold State.syncStart
    dsimp only
    split
    · exact ((hs.setTb _).of_touches (State.tellTimebase_touches _ _ _ _)).of_touches (State.tellMode_touches _ _ _)
    · exact (hs.setTb _).of_touches (State.tellMode_touches _ _ _)
  · unfold State.takeSyncEdge
    split
    · exact ((hs.setTb _).of_touches (State.tellTimebase_touches _ _ _ _)).alignedWrap
    · exact (hs.setTb _).alignedWrap
    · exact hs.setTb _
    · exact (hs.of_touches (s.tellTimebase_touches _ _ _)).alignedWrap
  · exact hs

/-! ## The reference monitor and the timebase's requests -/

theorem evict (goes : Entry → Bool) (reason : EvictReason) : Holdings (s.evict goes reason) :=
  hs.removeEntries goes fun h => some (.evicted h reason)

theorem discardEvict : Holdings s.discardEvict := hs.evict s.discardEvicts .frameLength

theorem declareAbsent : Holdings s.declareAbsent := by
  have told := (((hs.discardEvict.setTb s.discardEvict.tb.refGone).of_touches (State.alertAll_touches _)).of_touches
    (State.tellMode_touches _ .refLost none))
  unfold State.declareAbsent
  dsimp only
  split
  · exact (told.of_touches (State.tellMode_touches _ _ _)).claimedLines _
  · exact told.claimedLines _

theorem declarePresent : Holdings s.declarePresent := (hs.setTb _).of_touches (State.tellMode_touches _ _ _)

theorem discardOnRelease (h : HostId) : Holdings (s.discardOnRelease h) := by
  unfold State.discardOnRelease
  split
  · exact (hs.discardEvict.setTb _).of_touches (State.tellMode_touches _ _ _)
  · exact hs

theorem stopNow : Holdings s.stopNow := by
  have told (news : List StopNews) : Holdings ((s.setTb s.tb.stopped).takeAll news (State.tellStop s)) := by
    refine State.takeAll_holds Holdings _ _ (fun t n ht => ht.of_touches (t.setChoices_touches n)) (fun t ht x _ => ?_) _ (hs.setTb _)
    cases x with
    | evictions => exact ht.evict s.discardEvicts .frameLength
    | stopped => exact ht.of_touches (t.tellMode_touches .stop none)
  unfold State.stopNow
  dsimp only
  split
  · exact (told _).of_touches (State.tellMode_touches _ _ _)
  · exact told _

theorem startTimebase (f : StartFields) : Holdings (s.startTimebase f) := by
  have restarted : Holdings (if f.restart then s.restart else s) := by
    split
    · exact hs.restart
    · exact hs
  exact (restarted.setTb _).of_touches (State.tellTimebase_touches _ _ _ _)

end Holdings

end Sys2Proof.Machine
end

section
/-! Claims, subscriptions, sessions and requests: what they keep of the holdings, and O60. -/

set_option Elab.async false

namespace Sys2Proof.Machine

open Sys2Proof.Safety

/-! ## One line's records, one channel's subscribers, one reflex -/

theorem Transfers.standing {s t : State} (hclaims : t.claims = s.claims) (hchannels : t.channels = s.channels)
    (lost : HostId → LineId → Prop) (left : HostId → ChannelId → Prop) : Transfers s t lost left where
  lines l k _ := by rw [State.claim, State.claim, hclaims]; exact .refl _ k
  channels c k _ hk := by rw [State.channel, hchannels]; exact hk

namespace Holdings

variable {s t : State} (hs : Holdings s) {h : HostId}

include hs

/-- A change in which nobody loses a holding. -/
theorem grown (htr : Transfers s t (fun _ _ => False) fun _ _ => False) (hentries : t.entries = s.entries)
    (hreflexes : t.reflexes = s.reflexes) (hopen : ∀ k, Open s k → Open t k) (hlines : ∀ l, LineSound (t.claim l) (t.line l))
    (hmembers : ∀ k, Member t k → Open t k) (hsessions : ∀ k, SessionSound (t.session k)) : Holdings t := by
  refine hs.transfer htr (hentries ▸ List.Sublist.refl _) (fun e he => ?_) (fun c r hr => ?_) hlines hmembers hsessions
  · rw [hentries] at he
    exact ⟨hopen _ (hs.backed e he).isOpen, fun _ _ => id, fun _ _ => id⟩
  · rw [State.reflex, hreflexes] at hr
    exact ⟨hr, hopen _ (hs.reflexes c r hr).2.isOpen, id, fun _ _ => id⟩

/-- The hold passes to an open host, or to none. -/
theorem setHolder (t : Timebase) (h : ∀ k, t.holder = some k → Open s k) : Holdings (s.setTb t) := by
  refine hs.grown (.standing (s := s) (t := s.setTb t) rfl rfl _ _) rfl rfl (fun _ => id) hs.lines (fun k hk => ?_) hs.sessions
  rcases hk with hc | hl | hh
  · exact hs.members k (.inl hc)
  · exact hs.members k (.inr (.inl hl))
  · exact h k hh

/-- One line's records change, and every holder of it stays. -/
theorem reclaimed {l : LineId} {c : ClaimRec} {r : OutputRec} (h : OnlyTouches { lines := true, claims := true, notices := true } s t)
    (hclaim : ∀ m, t.claim m = if m = l then c else s.claim m) (hline : ∀ m, t.line m = if m = l then r else s.line m)
    (hsound : LineSound c r) (hserves : ∀ k, (s.claim l).Serves c k) (hhas : ∀ k, c.Has k → (s.claim l).Has k ∨ Open s k) : Holdings t := by
  have hopen (k : HostId) : Open t k ↔ Open s k := by rw [Open, Open, State.session, h.sessions rfl]
  refine hs.grown ⟨fun m k _ => ?_, fun d k _ hk => ?_⟩ (h.entries rfl) (h.reflexes rfl) (fun k => (hopen k).mpr) (fun m => ?_)
    (fun k hk => (hopen k).mpr ?_) fun k => ?_
  · rw [hclaim m]
    split
    · next heq => rw [heq]; exact hserves k
    · exact .refl _ k
  · rw [State.channel, h.channels rfl]
    exact hk
  · rw [hclaim m, hline m]
    split
    · exact hsound
    · exact hs.lines m
  · rcases hk with ⟨d, hd⟩ | ⟨m, hm⟩ | hh
    · rw [State.channel, h.channels rfl] at hd
      exact hs.members k (.inl ⟨d, hd⟩)
    · rw [hclaim m] at hm
      split at hm
      · rcases hhas k hm with hbefore | ho
        · exact hs.members k (.inr (.inl ⟨l, hbefore⟩))
        · exact ho
      · exact hs.members k (.inr (.inl ⟨m, hm⟩))
    · rw [h.tb rfl] at hh
      exact hs.members k (.inr (.inr hh))
  · rw [State.session, h.sessions rfl]
    exact hs.sessions k

theorem setClaim {l : LineId} {c : ClaimRec} (hsound : ClaimSound c) (hclaimed : c.state = .free → (s.claim l).state = .free)
    (hserves : ∀ k, (s.claim l).Serves c k) (hhas : ∀ k, c.Has k → (s.claim l).Has k ∨ Open s k) : Holdings (s.setClaim l c) := by
  refine hs.reclaimed (l := l) (c := c) (r := s.line l) ((s.setClaim_touches l c).mono rfl) (fun m => s.claim_setClaim l m c) (fun m => ?_)
    ⟨hsound, fun hf => (hs.lines l).cleared (hclaimed hf)⟩ hserves hhas
  split
  · next heq => rw [heq]; rfl
  · rfl

/-- A FREE line is granted (R88). -/
theorem grantNow {l : LineId} {ask : Ask} {settings : LineSettings} (hfree : (s.claim l).state = .free) (ho : Open s h) :
    Holdings (s.grantNow h l ask settings) := by
  have hsound := ClaimRec.grantedTo_sound h ask
  have hclaimed : (ClaimRec.grantedTo h ask).state ≠ .free := by cases ask <;> exact nofun
  obtain ⟨hnone, -, -⟩ := (hs.lines l).claim.free hfree
  rw [State.grantNow_eq]
  refine hs.reclaimed (((s.setClaim_touches l _).step (State.setLine_touches _ l _) (k := { claims := true, lines := true })).mono rfl)
    (fun m => s.claim_setClaim l m _) (fun m => State.line_setLine _ l m _) ⟨hsound, fun hf => absurd hf hclaimed⟩
    (fun k hk => absurd hk (ne_true_of_eq_false (hnone k))) fun k hk => ?_
  rcases hk with hk | hk
  · refine .inr ?_
    have heq : k = h := of_decide_eq_true ((single_get h k).symm.trans hk)
    exact heq ▸ ho
  · obtain ⟨w, hw, -⟩ := (ClaimRec.awaitedBy_iff _ k).mp hk
    cases hw

/-- A member joins (R89). -/
theorem join {l : LineId} (hshared : (s.claim l).state = .shared) (hnone : (s.claim l).waiting = []) (ho : Open s h) :
    Holdings (s.setClaim l { s.claim l with holders := (s.claim l).holders.set h true }) := by
  refine hs.setClaim ((hs.lines l).claim.joined h hshared hnone) id (fun k => ClaimRec.serves_joined) fun k hk => ?_
  rcases hk with hk | hk
  · dsimp only at hk
    rw [Quad.get_set] at hk
    split at hk
    · next heq => exact .inr (heq ▸ ho)
    · exact .inl (.inl hk)
  · exact .inl (.inr hk)

/-- A place is taken (R90). -/
theorem enqueue {l : LineId} {ask : Ask} (settings : LineSettings) (hclaimed : (s.claim l).state ≠ .free)
    (hshared : (s.claim l).state = .shared → (s.claim l).waiting = [] → ask.mode = .exclusive)
    (hout : (s.claim l).holders.get h = false) (hnew : (s.claim l).awaitedBy h = false) (ho : Open s h) :
    Holdings (s.setClaim l { s.claim l with waiting := (s.claim l).waiting ++ [⟨h, ask, settings⟩] }) := by
  refine hs.setClaim ((hs.lines l).claim.queued h settings hclaimed hshared hout hnew) id (fun k hk => ⟨hk, rfl, rfl⟩) fun k hk => ?_
  rcases hk with hk | hk
  · exact .inl (.inl hk)
  · obtain ⟨w, hw, rfl⟩ := (ClaimRec.awaitedBy_iff _ k).mp hk
    rcases List.mem_append.mp hw with hw | hw
    · exact .inl (ClaimRec.has_of_place hw)
    · rw [List.mem_singleton.mp hw]
      exact .inr ho

theorem withdrawPlace (l : LineId) : Holdings (s.withdrawPlace h l) := by
  have htouched := s.withdrawPlace_touches h l
  refine hs.reclaimed (htouched.mono rfl) (s.withdrawPlace_claim h l) (r := s.line l) (fun m => ?_) ((hs.lines l).withdrawn h)
    (fun k => ClaimRec.serves_withdrawn) fun k hk => .inl ((s.claim l).withdrawn_has h k hk)
  rw [State.line, htouched.lines rfl]
  split
  · next heq => rw [heq]
  · rfl

/-- A holding given up, with the requester's entries and reflexes on the line (R92, R129). -/
theorem releaseHolding {l : LineId} (hin : (s.claim l).holders.get h = true) : Holdings (s.releaseHolding h l) := by
  have htouched := s.releaseHolding_touches h l
  obtain ⟨hentries, -, hreflexes⟩ := s.releaseHolding_schedule h l hs.slots
  have hlines := s.releaseHolding_line h l
  have hopen (k : HostId) : Open (s.releaseHolding h l) k ↔ Open s k := by rw [Open, Open, State.session, htouched.sessions rfl]
  refine hs.transfer (lost := fun k m => k = h ∧ m = l) (left := fun _ _ => False) ⟨fun m k hkept => ?_, fun d k _ hk => ?_⟩
    (by rw [hentries]; exact List.filter_sublist) (fun e he => ?_) (fun c r hr => ?_) (fun m => ?_) (fun k hk => (hopen k).mpr ?_)
    fun k => ?_
  · rw [(hlines m).1]
    split
    · next heq => rw [heq]; exact ClaimRec.serves_left fun hk => hkept ⟨hk, heq⟩
    · exact .refl _ k
  · rw [State.channel, htouched.channels rfl]
    exact hk
  · rw [hentries, List.mem_filter] at he
    refine ⟨(hopen _).mpr (hs.backed e he.1).isOpen, fun m hm hlost => ?_, fun _ _ => id⟩
    have hacts : actsFor h l e = true := by simp [actsFor, hlost.1, ← hlost.2, Option.mem_def.mp hm]
    rw [hacts] at he
    cases he.2
  · rw [hreflexes c] at hr
    obtain ⟨hin, hstays⟩ := Option.mem_filter_iff.mp hr
    refine ⟨hin, (hopen _).mpr (hs.reflexes c r hin).2.isOpen, id, fun m hm hlost => ?_⟩
    have htargets : r.targets h l = true := by simp [Reflex.targets, hlost.1, ← hlost.2, Option.mem_def.mp hm]
    rw [htargets] at hstays
    cases hstays
  · rw [(hlines m).1, (hlines m).2]
    split
    · exact (hs.lines l).left h s.tb.mode hin
    · exact hs.lines m
  · rcases hk with ⟨d, hd⟩ | ⟨m, hm⟩ | hh
    · rw [State.channel, htouched.channels rfl] at hd
      exact hs.members k (.inl ⟨d, hd⟩)
    · rw [(hlines m).1] at hm
      split at hm
      · exact hs.members k (.inr (.inl ⟨l, (s.claim l).left_has h k hm⟩))
      · exact hs.members k (.inr (.inl ⟨m, hm⟩))
    · rw [htouched.tb rfl] at hh
      exact hs.members k (.inr (.inr hh))
  · rw [State.session, htouched.sessions rfl]
    exact hs.sessions k

/-- A subscriber joins (R107). -/
theorem subscribe (c : ChannelId) (ho : Open s h) : Holdings (s.setChannel c ((s.channel c).joined h)) := by
  have hjoined (r : ChannelRec) : (r.joined h).subscribers = r.subscribers.set h true := by
    unfold ChannelRec.joined
    dsimp only
    split <;> rfl
  have hsub (d : ChannelId) : ((s.setChannel c ((s.channel c).joined h)).channel d).subscribers =
      if d = c then (s.channel c).subscribers.set h true else (s.channel d).subscribers := by
    rw [State.channel_setChannel]
    split
    · exact hjoined _
    · rfl
  refine hs.grown ⟨fun _ k _ => .refl _ k, fun d k _ hk => ?_⟩ rfl rfl (fun _ => id) hs.lines (fun k hk => ?_) hs.sessions
  · rw [hsub d]
    split
    · next heq =>
      rw [Quad.get_set]
      split
      · rfl
      · exact heq ▸ hk
    · exact hk
  · rcases hk with ⟨d, hd⟩ | hl | hh
    · rw [hsub d] at hd
      split at hd
      · rw [Quad.get_set] at hd
        split at hd
        · next heq => exact heq ▸ ho
        · exact hs.members k (.inl ⟨c, hd⟩)
      · exact hs.members k (.inl ⟨d, hd⟩)
    · exact hs.members k (.inr (.inl hl))
    · exact hs.members k (.inr (.inr hh))

/-- A subscription given up, with the requester's REARM entries and reflex on the channel (R108, R130). -/
theorem unsubscribe (c : ChannelId) : Holdings (s.unsubscribed h c) := by
  have htouched : OnlyTouches { entries := true, uses := true, notices := true, channels := true, reflexes := true } s (s.unsubscribed h c) :=
    ((s.setChannel_touches c _).step (s.unsubscribing_same h c).touches
      (k := { entries := true, uses := true, notices := true, channels := true })).step (s.unsubscribed_same h c).touches
  obtain ⟨hentries, -⟩ := s.unsubscribed_entries h c hs.slots
  have hsub (d : ChannelId) : ((s.unsubscribed h c).channel d).subscribers =
      if d = c then (s.channel c).subscribers.set h false else (s.channel d).subscribers := by
    rw [s.unsubscribed_channel h c d]
    split
    · exact ChannelRec.without_subscribers _ h
    · rfl
  have hopen (k : HostId) : Open (s.unsubscribed h c) k ↔ Open s k := by rw [Open, Open, State.session, htouched.sessions rfl]
  have hclaim (l : LineId) : (s.unsubscribed h c).claim l = s.claim l := congrArg (·[l]) (htouched.claims rfl)
  refine hs.transfer (lost := fun _ _ => False) (left := fun k d => k = h ∧ d = c) ⟨fun m k _ => ?_, fun d k hkept hk => ?_⟩
    (by rw [hentries]; exact List.filter_sublist) (fun e he => ?_) (fun d r hr => ?_) (fun m => ?_) (fun k hk => (hopen k).mpr ?_)
    fun k => ?_
  · rw [hclaim m]
    exact .refl _ k
  · rw [hsub d]
    split
    · next heq =>
      rw [Quad.get_set_ne _ _ fun hkh => hkept ⟨hkh, heq⟩]
      exact heq ▸ hk
    · exact hk
  · rw [hentries, List.mem_filter] at he
    refine ⟨(hopen _).mpr (hs.backed e he.1).isOpen, fun _ _ => id, fun d hd hleft => ?_⟩
    have hrearms : rearmsFor h c e = true := by simp [rearmsFor, hleft.1, ← hleft.2, Option.mem_def.mp hd]
    rw [hrearms] at he
    cases he.2
  · rw [s.unsubscribed_reflex h c d] at hr
    obtain ⟨hin, hstays⟩ := Option.mem_filter_iff.mp hr
    refine ⟨hin, (hopen _).mpr (hs.reflexes d r hin).2.isOpen, fun hleft => ?_, fun _ _ => id⟩
    have hown : ownReflexOn h c d r = true := by simp [ownReflexOn, hleft.1, hleft.2]
    rw [hown] at hstays
    cases hstays
  · rw [hclaim m, State.line, htouched.lines rfl]
    exact hs.lines m
  · rcases hk with ⟨d, hd⟩ | ⟨m, hm⟩ | hh
    · rw [hsub d] at hd
      split at hd
      · rw [Quad.get_set] at hd
        split at hd
        · cases hd
        · exact hs.members k (.inl ⟨c, hd⟩)
      · exact hs.members k (.inl ⟨d, hd⟩)
    · rw [hclaim m] at hm
      exact hs.members k (.inr (.inl ⟨m, hm⟩))
    · rw [htouched.tb rfl] at hh
      exact hs.members k (.inr (.inr hh))
  · rw [State.session, htouched.sessions rfl]
    exact hs.sessions k

/-! ## Reflexes -/

theorem setReflex (c : ChannelId) (o : Option Reflex)
    (h : ∀ r ∈ o, (s.channel c).subscribers.get r.owner = true ∧ Backed s r.owner r.deed.deed) : Holdings (s.setReflex c o) := by
  have htr : Transfers s (s.setReflex c o) (fun _ _ => False) fun _ _ => False := .standing (s := s) (t := s.setReflex c o) rfl rfl _ _
  have hbacked {k : HostId} {d : Deed} (hb : Backed s k d) : Backed (s.setReflex c o) k d :=
    htr.backed hb hb.isOpen (fun _ _ => id) fun _ _ => id
  refine ⟨hs.slots, fun e he => hbacked (hs.backed e he), hs.apart, fun d r hr => ?_, hs.lines, hs.members, hs.sessions⟩
  rw [State.reflex_setReflex] at hr
  split at hr
  · next heq =>
    obtain ⟨hsub, hb⟩ := h r hr
    exact ⟨heq ▸ hsub, hbacked hb⟩
  · obtain ⟨hsub, hb⟩ := hs.reflexes d r hr
    exact ⟨hsub, hbacked hb⟩

/-- A reflex that passes the checks is installed (R124). -/
theorem installReflex {c : ChannelId} {r : Reflex} (hok : s.reflexFails c r = none) (ho : Open s r.owner) :
    Holdings (s.setReflex c (some r)) := by
  refine hs.setReflex c _ fun x hx => ?_
  cases hx
  rw [State.reflexFails_eq] at hok
  split at hok
  · cases hok
  · next hsub =>
    split at hok
    · cases hok
    · next hheld =>
      split at hok
      · cases hok
      · next htoggle =>
        refine ⟨Bool.eq_true_of_not_eq_false hsub, ho, fun l hl => ?_, fun d hd => ?_, Bool.eq_false_iff.mpr htoggle⟩
        · exact Bool.eq_true_of_not_eq_false fun hout => hheld ⟨l, hl, hout⟩
        · rw [r.deed.deed_rearms] at hd
          cases hd

end Holdings

/-! ## Sessions -/

theorem SessionSound.reset : SessionSound .reset := ⟨fun _ => ⟨rfl, rfl, rfl⟩, nofun⟩

theorem SessionRec.ended_sound (r : SessionRec) (cause : EndCause) : SessionSound (r.ended cause) :=
  ⟨fun _ => ⟨rfl, rfl, rfl⟩, nofun⟩

theorem SessionRec.opened_sound (r : SessionRec) (limit : Nat) (watch : Bool) : SessionSound (r.opened limit watch) := by
  refine ⟨nofun, fun _ => ⟨rfl, ?_⟩⟩
  rw [SessionRec.opened]
  dsimp only
  by_cases hlimit : limit = 0
  · simp [hlimit]
  · simp [hlimit, Nat.pos_of_ne_zero hlimit]

theorem SessionSound.counted {r : SessionRec} (hr : SessionSound r) : SessionSound r.counted := by
  unfold SessionRec.counted
  split
  · next ho =>
    refine ⟨fun hc => absurd ho (ne_true_of_eq_false hc), fun _ => ⟨(hr.opened ho).1, ?_⟩⟩
    rw [Option.isSome_map]
    exact (hr.opened ho).2
  · exact hr

/-- A request restarts the timer of a session that has one (R158). -/
theorem SessionSound.restarted {r : SessionRec} (hr : SessionSound r) :
    SessionSound (if r.isOpen = true ∧ 0 < r.silenceLimit then { r with timer := some ⟨0, 0⟩ } else r) := by
  split
  · next h =>
    exact ⟨fun hc => absurd h.1 (ne_true_of_eq_false hc), fun ho => ⟨(hr.opened ho).1, fun _ => h.2, fun _ => rfl⟩⟩
  · exact hr

theorem State.arrived_carries (s : State) (p : HostId) : Carries s (Safety.arrived s p) := by
  refine Carries.trans (t := transactionOver s p) (.of_touches (State.setPort_touches s p _)) (.setSession _ p ?_ fun h => h.restarted)
  split <;> rfl

theorem State.countPeriod_carries (s : State) : Carries s s.countPeriod := by
  have htimers (u : State) : Carries u (allHosts.foldl (fun v h => v.setSession h (v.session h).counted) u) :=
    .foldl (take := fun v h => v.setSession h (v.session h).counted)
      (fun v h => .setSession v h (SessionRec.counted_isOpen _) SessionSound.counted) _ u
  exact ((Carries.of_touches s.stallChecks_touches).trans (htimers _)).trans (.setTb _ _)

theorem Timebase.without_holder {t : Timebase} {h k : HostId} (hk : (t.without h).holder = some k) : t.holder = some k ∧ k ≠ h := by
  unfold Timebase.without at hk
  split at hk
  · split at hk <;> cases hk
  · next hne => exact ⟨hk, fun heq => hne (heq ▸ hk)⟩

namespace Holdings

variable {s t : State} (hs : Holdings s) {h : HostId}

include hs

/-- A closed session opens (R154). -/
theorem openSession (limit : Nat) (watch : Bool) : Holdings ((s.setSession h ((s.session h).opened limit watch)).setNotice h .reset) := by
  have hopen (k : HostId) (ho : Open s k) : Open ((s.setSession h ((s.session h).opened limit watch)).setNotice h .reset) k := by
    change ((s.setSession h ((s.session h).opened limit watch)).session k).isOpen = true
    rw [State.session_setSession]
    split
    · rfl
    · exact ho
  refine hs.grown (.standing (s := s) (t := (s.setSession h ((s.session h).opened limit watch)).setNotice h .reset) rfl rfl _ _) rfl rfl
    hopen hs.lines (fun k hk => hopen k (hs.members k hk)) fun k => ?_
  change SessionSound ((s.setSession h ((s.session h).opened limit watch)).session k)
  rw [State.session_setSession]
  split
  · exact SessionRec.opened_sound _ _ _
  · exact hs.sessions k

/-- A session ends with everything its host held (R160). -/
theorem endSession (h : HostId) (cause : EndCause) : Holdings (s.endSession h cause) := by
  have hentries := s.endSession_entries h cause hs.slots
  have hsession (k : HostId) := s.endSession_session h k cause
  have hopen {k : HostId} (hk : k ≠ h) : Open (s.endSession h cause) k ↔ Open s k := by rw [Open, Open, hsession k, if_neg hk]
  have hline := s.endSession_line h cause
  have hsub (c : ChannelId) (k : HostId) : ((s.endSession h cause).channel c).subscribers.get k = true ↔
      (s.channel c).subscribers.get k = true ∧ k ≠ h := by
    rw [s.endSession_channel h cause c]
    split
    · rw [ChannelRec.without_subscribers, Quad.get_set]
      by_cases hk : k = h <;> simp [hk]
    · next hout => exact ⟨fun hk => ⟨hk, fun heq => hout (heq ▸ hk)⟩, And.left⟩
  refine hs.transfer (lost := fun k _ => k = h) (left := fun k _ => k = h) ⟨fun l k hk => ?_, fun c k hk hin => (hsub c k).mpr ⟨hin, hk⟩⟩
    (by rw [hentries]; exact List.filter_sublist) (fun e he => ?_) (fun c r hr => ?_) (fun l => ?_) (fun k hk => ?_) fun k => ?_
  · rw [(hline l).1]
    exact ClaimRec.serves_endedBy hk
  · rw [hentries, List.mem_filter, Bool.and_eq_true, decide_eq_true_eq] at he
    obtain ⟨hin, hne, -⟩ := he
    exact ⟨(hopen hne).mpr (hs.backed e hin).isOpen, fun _ _ => hne, fun _ _ => hne⟩
  · rw [s.endSession_reflex h cause c] at hr
    obtain ⟨hin, hstays⟩ := Option.mem_filter_iff.mp hr
    have hne : r.owner ≠ h := by simpa using hstays
    exact ⟨hin, (hopen hne).mpr (hs.reflexes c r hin).2.isOpen, hne, fun _ _ => hne⟩
  · rw [(hline l).1, (hline l).2]
    exact (hs.lines l).endedBy h s.tb.mode
  · have hmember : Member s k ∧ k ≠ h := by
      rcases hk with ⟨c, hc⟩ | ⟨l, hl⟩ | hh
      · obtain ⟨hin, hne⟩ := (hsub c k).mp hc
        exact ⟨.inl ⟨c, hin⟩, hne⟩
      · rw [(hline l).1] at hl
        obtain ⟨hout, hgone⟩ := ClaimRec.endedBy_gone (h := h) (hs.lines l).claim.apart
        refine ⟨.inr (.inl ⟨l, (s.claim l).endedBy_has h k hl⟩), fun heq => ?_⟩
        rcases hl with hl | hl
        · exact absurd hl (ne_true_of_eq_false (heq ▸ hout))
        · obtain ⟨w, hw, hwk⟩ := (ClaimRec.awaitedBy_iff _ k).mp hl
          exact hgone w hw (hwk.trans heq)
      · rw [s.endSession_tb h cause] at hh
        obtain ⟨hin, hne⟩ := Timebase.without_holder hh
        exact ⟨.inr (.inr hin), hne⟩
    exact (hopen hmember.2).mpr (hs.members k hmember.1)
  · rw [hsession k]
    split
    · exact SessionRec.ended_sound _ _
    · exact hs.sessions k

theorem housekeepingPeriod : Holdings s.housekeepingPeriod := by
  have counted : Holdings s.countPeriod := s.countPeriod_carries.holds hs (s.countPeriod_touches.entries rfl)
  unfold State.housekeepingPeriod
  split
  · refine State.takeAll_holds Holdings _ _ (fun t n ht => ht.of_touches (t.setChoices_touches n)) (fun t ht x _ => ?_) _ counted
    cases x with
    | expiry h => exact ht.endSession h .silence
    | declaration =>
      change Holdings t.declare
      unfold State.declare
      split
      · exact ht.declareAbsent
      · exact ht.declarePresent
  · exact hs

end Holdings

theorem State.deviceReset_holdings (s : State) (pins : ResetPins) (senses : BitVec 8) : Holdings (s.deviceReset pins senses) := by
  have hreset := s.deviceReset_atReset pins senses
  refine ⟨List.nodup_nil, nofun, List.Pairwise.nil, fun c r hr => ?_, fun l => ?_, fun h hm => ?_, fun h => ?_⟩
  · rw [s.deviceReset_reflex] at hr
    cases hr
  · rw [s.deviceReset_claim, s.deviceReset_line]
    exact ⟨.cleared, fun _ => rfl⟩
  · rcases hm with ⟨c, hc⟩ | ⟨l, hl⟩ | hh
    · rw [s.deviceReset_channel] at hc
      exact absurd hc (ne_true_of_eq_false (const_false_get h))
    · rw [s.deviceReset_claim] at hl
      exact hl.elim (fun hl => absurd hl (ne_true_of_eq_false (const_false_get h))) nofun
    · cases hh
  · rw [s.deviceReset_session]
    exact .reset

end Sys2Proof.Machine
end

section
/-! O60: every request and every event keeps the holdings of the four hosts consistent. -/

set_option Elab.async false

namespace Sys2Proof.Machine

open Sys2Proof.Safety

namespace Holdings

variable {s t : State} (hs : Holdings s)

include hs

/-! ## Requests and steps -/

theorem served {h : HostId} (hst : Served h s t) : Holdings t := by
  cases hst with
  | stands => exact hs
  | opened limit watch => exact hs.openSession limit watch
  | closed => exact hs.endSession h .close
  | portCleared u hu =>
    have kept : Holdings u := by
      rcases hu with hu | ⟨_, hu⟩
      · exact hu ▸ hs
      · exact hu ▸ hs.endSession h .portReset
    exact kept.of_touches (u.setPort_touches h _)
  | noticesRead | mapsSet | acknowledged => exact hs.of_touches (s.putNotices_touches h _)
  | holdTaken _ ho =>
    refine hs.setHolder _ fun k hk => ?_
    cases hk
    exact ho
  | holdReleased => exact (hs.setHolder { s.tb with holder := none } nofun).discardOnRelease h
  | started f => exact hs.startTimebase f
  | stopCancelled | stoppedIdle => exact (hs.setTb _).of_touches (State.tellMode_touches _ _ _)
  | stoppedNow => exact hs.stopNow
  | tbSet u hu => cases hu <;> exact hs.setTb _
  | lengthStaged n => exact (hs.setTb { s.tb with staged := some n }).evict _ _
  | lengthApplied n =>
    exact ((hs.setTb { s.tb with length := n }).evict _ _).of_touches (State.tellTimebase_touches _ _ _ _)
  | scheduled o t handle _ howner _ ho ht => exact hs.insert ht (howner ▸ ho)
  | cancelled e => exact hs.leave e
  | groupCancelled => exact hs.removeEntries _ _
  | claimGranted l ask settings hfree ho => exact hs.grantNow hfree ho
  | claimJoined l hshared hnone ho => exact hs.join hshared hnone ho
  | claimQueued l ask settings hclaimed hshared hout hnew ho => exact hs.enqueue settings hclaimed hshared hout hnew ho
  | released l hin => exact hs.releaseHolding hin
  | placeWithdrawn l => exact hs.withdrawPlace l
  | outputChanged l r _ hin =>
    refine (Carries.setLine s l r fun hfree => ?_).holds hs
    exact absurd hin (ne_true_of_eq_false (((hs.lines l).claim.free hfree).1 h))
  | channelSetUp c => exact hs.setChannel c
  | subscribed c ho => exact hs.subscribe c ho
  | unsubscribed c => exact hs.unsubscribe c
  | rearmed c => exact (s.rearm_carries c).holds hs ((s.rearm_touches c).entries rfl)
  | reflexSet c r howner hok ho => exact hs.installReflex hok (howner ▸ ho)
  | reflexCleared c => exact hs.setReflex c none nofun

theorem arrived (p : HostId) : Holdings (Safety.arrived s p) := (s.arrived_carries p).holds hs

theorem effect (hst : Effect s t) : Holdings t := by
  cases hst with
  | nothing => exact hs
  | request p row block hb =>
    refine s.takeRequest_holds p row block hs (fun tag hs => ?_) (fun hs => hs.arrived p)
      (fun u tag st hu => hu.of_touches (u.placeReply_touches p tag st [])) (fun payload tag ho ha => ?_)
    · exact (hs.of_touches (s.endTransaction_touches p)).of_touches (State.answerBadCrc_touches _ p tag)
    · exact (Holdings.served ha (hb.served p payload _ ho)).of_touches (State.placeReply_touches _ p _ _ _)
  | unknown p =>
    unfold State.takeUnknown
    split
    · exact hs
    · split
      · exact hs
      · split
        · rw [s.arrived_eq p]
          exact (hs.arrived p).of_touches (State.placeReply_touches _ p _ _ _)
        · exact (hs.of_touches (s.endTransaction_touches p)).of_touches (State.answerBadCrc_touches _ p _)
  | selected p => exact hs.of_touches (s.selectPort_touches p)
  | clocked p edge sdi => exact hs.of_touches (s.clockPort_touches p edge sdi)
  | endedWithoutFrame p => exact hs.of_touches (s.endWithoutFrame_touches p)
  | abandoned p => exact hs.of_touches (s.abandon_touches p)
  | silence h => exact hs.endSession h .silence
  | ticked => exact hs.runTick
  | cycled | captured => exact hs.refclkCycle
  | synced => exact hs.syncEdge
  | absent => exact Holdings.declareAbsent (hs.setTb _)
  | present => exact Holdings.declarePresent (hs.setTb _)
  | driven c level => exact hs.driveSense c level
  | reset pins senses => exact s.deviceReset_holdings pins senses
  | period => exact hs.housekeepingPeriod

theorem setPending (q : List Instr) : Holdings (s.setPending q) :=
  hs.grown (.standing (s := s) (t := s.setPending q) rfl rfl _ _) rfl rfl (fun _ => id) hs.lines hs.members hs.sessions

theorem step (hst : Machine.step s = .next t) : Holdings t :=
  step_holds (P := Holdings) (fun _ q hu => hu.setPending q) (fun _ _ hu he => hu.effect he) hs hst

end Holdings

/-! ## The channels' states (R104) -/

/-- A channel is IDLE exactly without subscribers, and GATED only with its gate on. -/
abbrev StateFollows (r : ChannelRec) : Prop := (r.state = .idle ↔ noHosts r.subscribers = true) ∧ (r.state = .gated → r.gate = true)

theorem noHosts_joined (q : HostSet) (h : HostId) : ¬ noHosts (q.set h true) = true := fun hb =>
  absurd (Quad.get_set_same ..) (ne_true_of_eq_false ((noHosts_iff _).mp hb h))

theorem stateFollows_law : ChannelLaw StateFollows where
  reset _ := ⟨⟨fun _ => rfl, fun _ => rfl⟩, nofun⟩
  change r r' hr hchange := by
    obtain ⟨hidle, hgated⟩ := hr
    cases hchange with
    | rearmed hactive => exact ⟨⟨nofun, fun hb => absurd (hidle.mpr hb) hactive⟩, nofun⟩
    | captured stamp edge hopen =>
      have hsome : ¬ noHosts r.subscribers = true := fun hb => nomatch hopen.symm.trans (hidle.mpr hb)
      unfold ChannelRec.capturedWithGate
      by_cases hg : r.gate = true
      · rw [if_pos hg]
        exact ⟨⟨nofun, fun hb => absurd hb hsome⟩, fun _ => hg⟩
      · rw [if_neg hg]
        exact ⟨hidle, hgated⟩
    | counted => exact ⟨hidle, hgated⟩
    | settled => exact ⟨hidle, hgated⟩
    | driven => exact ⟨hidle, hgated⟩
    | sampled f =>
      unfold ChannelRec.sample
      split <;> exact ⟨hidle, hgated⟩
    | left h =>
      unfold ChannelRec.without
      dsimp only
      split
      · next hnone => exact ⟨⟨fun _ => hnone, fun _ => rfl⟩, nofun⟩
      · next hsome =>
        refine ⟨⟨fun hi => absurd (hidle.mp hi) fun hb => hsome ?_, fun hb => absurd hb hsome⟩, hgated⟩
        exact (noHosts_without _ h).mpr fun k _ => (noHosts_iff _).mp hb k
    | joined h =>
      have hsome := noHosts_joined r.subscribers h
      unfold ChannelRec.joined
      dsimp only
      split
      · exact ⟨⟨nofun, fun hb => absurd hb hsome⟩, nofun⟩
      · next hactive => exact ⟨⟨fun hi => absurd hi hactive, fun hb => absurd hb hsome⟩, hgated⟩
    | setUp e f prescale g =>
      unfold ChannelRec.setUp
      split
      · next hwas =>
        have hsome : ¬ noHosts r.subscribers = true := fun hb => nomatch hwas.symm.trans (hidle.mpr hb)
        split
        · next hg => exact ⟨⟨nofun, fun hb => absurd hb hsome⟩, fun _ => hg⟩
        · exact ⟨⟨nofun, fun hb => absurd hb hsome⟩, nofun⟩
      · next hnot => exact ⟨hidle, fun hg => absurd hg hnot⟩

/-! ## The closed sessions' notice records (R149) -/

/-- A closed session's host has an empty queue and no condition set. -/
abbrev EmptyIfClosed (r : NoticeRec) (isOpen : Bool) : Prop :=
  isOpen = false → r.held = [] ∧ r.conditions.any = false ∧ r.lostCount = 0

theorem emptyIfClosed_law : NoticeLaw EmptyIfClosed where
  change _ _ _ _ := nofun
  flushed _ _ _ _ := ⟨rfl, rfl, rfl⟩
  fresh _ _ := ⟨rfl, rfl, rfl⟩

/-! ## The statement's parts -/

theorem holdings_of {s : State} (hroom : ScheduleInRoom s) (hsessions : SessionsConsistent s) (hclaims : ClaimsConsistent s)
    (hwaits : WaitListsConsistent s) (hcleared : FreeLinesCleared s) (hreflexes : ReflexesOwned s) (hentries : EntriesOwned s)
    (happart : NoCollisions s) (hclosed : ClosedHoldsNothing s) : Holdings s := by
  have hopen (k : HostId) (h : ¬ Open s k → False) : Open s k := by_contra h
  have hempty (k : HostId) (h : ¬ Open s k) := hclosed k (Bool.eq_false_iff.mpr h)
  refine ⟨hroom.1, fun e he => ?_, happart, fun c r hr => ?_, fun l => ?_, fun k hk => hopen k fun hno => ?_, fun k => ?_⟩
  · obtain ⟨hline, hchannel, htoggle⟩ := hentries e he
    refine ⟨hopen _ fun hno => ?_, hline, hchannel, htoggle⟩
    have hnone := List.countP_eq_zero.mp (hempty _ hno).1 e he
    exact hnone (decide_eq_true rfl)
  · obtain ⟨hsub, hline, htoggle⟩ := hreflexes c r hr
    refine ⟨hsub, hopen _ fun hno => (((hempty _ hno).2.1 c).2 r hr) rfl, hline, fun d hd => ?_, htoggle⟩
    rw [r.deed.deed_rearms] at hd
    cases hd
  · obtain ⟨hfree, hexclusive, hshared⟩ := hclaims l
    obtain ⟨hplaces, hapart, hhead⟩ := hwaits l
    exact
      ⟨{ free := fun hf => ⟨(hostCount_zero_iff _).mp (hfree hf).1, (hfree hf).2⟩
         exclusive := fun he => ⟨(hostCount_one_iff _).mp (hexclusive he).1, (hexclusive he).2⟩
         shared := fun hs => (hostCount_pos_iff _).mp (hshared hs)
         places := hplaces, apart := hapart, head := hhead }, hcleared l⟩
  · obtain ⟨-, hchannels, hlines, hholder⟩ := hempty k hno
    rcases hk with ⟨c, hc⟩ | ⟨l, hl⟩ | hh
    · exact absurd hc (ne_true_of_eq_false (hchannels c).1)
    · exact hl.elim (fun hl => absurd hl (ne_true_of_eq_false (hlines l).1)) fun hl => absurd hl (ne_true_of_eq_false (hlines l).2)
    · exact hholder hh
  · obtain ⟨hshut, hrunning⟩ := hsessions k
    exact ⟨fun hc => ⟨(hshut hc).1, (hshut hc).2.1, (hshut hc).2.2.1⟩, hrunning⟩

namespace Holdings

variable {s : State} (hs : Holdings s)

include hs

theorem sessionsConsistent (hnotices : EveryRecord EmptyIfClosed s) : SessionsConsistent s := fun k =>
  ⟨fun hc =>
    let ⟨htimer, hlimit, hwatch⟩ := (hs.sessions k).closed hc
    ⟨htimer, hlimit, hwatch, hnotices k hc⟩, (hs.sessions k).opened⟩

theorem claimsConsistent : ClaimsConsistent s := fun l =>
  have hc := (hs.lines l).claim
  ⟨fun hf => ⟨(hostCount_zero_iff _).mpr (hc.free hf).1, (hc.free hf).2⟩,
    fun he => ⟨(hostCount_one_iff _).mpr (hc.exclusive he).1, (hc.exclusive he).2⟩, fun hs => (hostCount_pos_iff _).mpr (hc.shared hs)⟩

theorem waitListsConsistent : WaitListsConsistent s := fun l =>
  have hc := (hs.lines l).claim
  ⟨hc.places, hc.apart, hc.head⟩

theorem channelsConsistent (hchannels : EveryChannel StateFollows s) : ChannelsConsistent s := fun c => by
  refine ⟨(hchannels c).1, fun hnone => Option.eq_none_iff_forall_not_mem.mpr fun r hr => ?_, (hchannels c).2⟩
  exact absurd (hs.reflexes c r hr).1 (ne_true_of_eq_false ((noHosts_iff _).mp hnone r.owner))

theorem reflexesOwned : ReflexesOwned s := fun c r hr =>
  have h := hs.reflexes c r hr
  ⟨h.1, h.2.line, h.2.toggle⟩

theorem entriesOwned : EntriesOwned s := fun e he =>
  have h := hs.backed e he
  ⟨h.line, h.channel, h.toggle⟩

theorem closedHoldsNothing : ClosedHoldsNothing s := fun k hc => by
  have hno {P : Prop} (ho : Open s k) : P := absurd ho (ne_true_of_eq_false hc)
  refine ⟨List.countP_eq_zero.mpr fun e he hown => hno ?_, fun c => ⟨Bool.eq_false_iff.mpr fun hb => hno ?_, fun r hr hown => hno ?_⟩,
    fun l => ⟨Bool.eq_false_iff.mpr fun hb => hno ?_, Bool.eq_false_iff.mpr fun hb => hno ?_⟩, fun hh => hno ?_⟩
  · exact of_decide_eq_true hown ▸ (hs.backed e he).isOpen
  · exact hs.members k (.inl ⟨c, hb⟩)
  · exact hown ▸ (hs.reflexes c r hr).2.isOpen
  · exact hs.members k (.inr (.inl ⟨l, .inl hb⟩))
  · exact hs.members k (.inr (.inl ⟨l, .inr hb⟩))
  · exact hs.members k (.inr (.inr hh))

end Holdings

/-- Settles O60: the holdings, the closed sessions' notice records and the channels' states are each kept by every step. -/
theorem stepKeepsTheHoldingsConsistent : Obligations.StepKeepsTheHoldingsConsistent := by
  intro s t hroom _ hsessions hclaims hwaits hcleared hchannels hreflexes hentries hapart hclosed hstep
  have hs := holdings_of hroom hsessions hclaims hwaits hcleared hreflexes hentries hapart hclosed
  have hnotices : EveryRecord EmptyIfClosed s := fun k hc =>
    let ⟨_, _, _, hempty⟩ := (hsessions k).1 hc
    hempty
  have hstates : EveryChannel StateFollows s := fun c => ⟨(hchannels c).1, (hchannels c).2.2⟩
  have ht := hs.step hstep
  exact ⟨ht.sessionsConsistent (hnotices.step emptyIfClosed_law hstep), ht.claimsConsistent, ht.waitListsConsistent,
    fun l => (ht.lines l).cleared, ht.channelsConsistent (hstates.step stateFollows_law hstep), ht.reflexesOwned, ht.entriesOwned,
    ht.apart, ht.closedHoldsNothing⟩

end Sys2Proof.Machine
end
